-- ==== Sys2Proof/Word.lean ====
section
/-! DEFINITION. Bytes, slot numbers and line levels: the plainest types every other file uses. -/

namespace Sys2Proof

/-- A byte of a frame, of an identity block, of a notice or of a cue. -/
abbrev Byte := BitVec 8

/-- One of the sixteen slots. The manual numbers slots 1 to 16 (00 section 6); `slotNumber` gives that number. -/
abbrev SlotId := Fin 16

/-- The manual's number of a slot, 1 to 16. -/
def slotNumber (i : SlotId) : Nat := i.val + 1

/-- The slot a slot number names; 0 and numbers above 16 name none. -/
def slotOfNumber (n : Nat) : Option SlotId :=
  if h : 1 ≤ n ∧ n ≤ 16 then some ⟨n - 1, by omega⟩ else none

/-- The sixteen slots in slot number order. -/
def allSlots : List SlotId := [0, 1, 2, 3, 4, 5, 6, 7, 8, 9, 10, 11, 12, 13, 14, 15]

/-- The level of an input line. -/
inductive Level where
  | low
  | high
  deriving DecidableEq, Repr

/-- The two management links (00 section 4). -/
inductive Link where
  | a
  | b
  deriving DecidableEq, Repr

/-- The redundant partner of a link. -/
def Link.other : Link → Link
  | .a => .b
  | .b => .a

/-- The names of the hubs (00 section 2): A is the lower-numbered slot of role HUB. -/
inductive HubName where
  | a
  | b
  deriving DecidableEq, Repr

end Sys2Proof
end

