-- ==== Sys2Proof/Syntax.lean ====
section
/-! DEFINITION. The commands the GS1624 takes: one constructor per row of spec/opcode_table.json, with the row's
operands. Slots of line, timer and channel events are slot indices, so that no event names a slot that does not exist;
the slot of a link frame is the byte the frame carries, which the owning block checks. -/

namespace Sys2Proof

/-- What a link transaction brings beside its command code (10 R157, 12 section 12.2): the link, the slot byte, the
declared parameter length, and every byte taken in after those three header bytes, up to the release of chip select. -/
structure Frame where
  link : Link
  slot : Byte
  len : Byte
  rest : List Byte
  deriving DecidableEq, Repr

/-- How many bytes the transaction of a frame clocks, in and out (log entry 8). -/
def Frame.clocked (f : Frame) : Nat := 3 + f.rest.length

/-- The parameter bytes a frame declares; bytes beyond them are ignored (10 R158). -/
def Frame.params (f : Frame) : List Byte := f.rest.take f.len.toNat

/-- The commands. An edge's `level` is the level the line goes to (log entry 5). -/
inductive Instr where
  /-- POWER_ON, R17. -/
  | powerOn
  /-- RESET_L_ASSERTED, R169: RESET_L has been low for 1 ms. -/
  | resetLAsserted
  /-- RESET_L_RELEASED, R169. -/
  | resetLReleased
  /-- LRST_ASSERTED, R166. -/
  | lrstAsserted (link : Link)
  /-- LRST_RELEASED, R166. -/
  | lrstReleased (link : Link)
  /-- REFCLK_LOSS, R19. -/
  | refclkLoss
  /-- REFCLK_RETURN, R19. -/
  | refclkReturn
  /-- PRESENCE_EDGE, R20, R21: an edge of PRES_L. -/
  | presenceEdge (slot : SlotId) (level : Level)
  /-- PRESENCE_SETTLED, R20: the debounce timer expires. -/
  | presenceSettled (slot : SlotId)
  /-- PRESENCE_LOST, R21: the presence-loss filter expires. -/
  | presenceLost (slot : SlotId)
  /-- HANDLE_EDGE, R23: an edge of HDL. -/
  | handleEdge (slot : SlotId) (level : Level)
  /-- HANDLE_SETTLE_EXPIRY, R23. -/
  | handleSettleExpiry (slot : SlotId)
  /-- PGOOD_ROSE, R46. -/
  | pgoodRose (slot : SlotId)
  /-- PGOOD_FELL, R24. -/
  | pgoodFell (slot : SlotId)
  /-- FAULT_ASSERTED, R24: an edge of FLT_L; the falling edge is FAULT asserted, the rising edge no event. -/
  | faultAsserted (slot : SlotId) (level : Level)
  /-- NOTIFY_ASSERTED, R85, R25: an edge of NTFY_L; the falling edge is NOTIFY asserted, the rising edge no event. -/
  | notifyAsserted (slot : SlotId) (level : Level)
  /-- SUPPLY_LOW_EDGE, R26. -/
  | supplyLowEdge (level : Level)
  /-- SUPPLY_LOW_SETTLE_EXPIRY, R26. -/
  | supplyLowSettleExpiry
  /-- CHARGE_TIMEOUT, R47. -/
  | chargeTimeout (slot : SlotId)
  /-- COOL_DOWN_EXPIRY, R49. -/
  | coolDownExpiry (slot : SlotId)
  /-- STABILIZE_TIME_EXPIRY, R50. -/
  | stabilizeTimeExpiry (slot : SlotId)
  /-- BOOT_TIMEOUT, R53. -/
  | bootTimeout (slot : SlotId)
  /-- POWER_OFF_TIMER_EXPIRY, R57. -/
  | powerOffTimerExpiry (slot : SlotId)
  /-- DRAIN_DEADLINE_EXPIRY, R122. -/
  | drainDeadlineExpiry (slot : SlotId)
  /-- ISOLATING_LANE_SETTLE_EXPIRY, R124. -/
  | isolatingLaneSettleExpiry (slot : SlotId)
  /-- ENTRY_LANE_SETTLE_EXPIRY, R100: the entry of this payload slot and the hub of this name. -/
  | entryLaneSettleExpiry (payload : SlotId) (hub : HubName)
  /-- GATHER_WINDOW_EXPIRY, R120. -/
  | gatherWindowExpiry
  /-- CHANNEL_LOST_PAUSE_EXPIRY, R89. -/
  | channelLostPauseExpiry (slot : SlotId)
  /-- HOLDOFF_EXPIRY, R153. -/
  | holdoffExpiry (link : Link)
  /-- SUPERVISION_EXPIRY, R161. -/
  | supervisionExpiry (link : Link)
  /-- LED_BLINK_TOGGLE, R31. -/
  | ledBlinkToggle (slot : SlotId)
  /-- IDENTITY_READ_COMPLETE, R84: an attempt completes with these 32 bytes in hand. -/
  | identityReadComplete (slot : SlotId) (block : Vector Byte 32)
  /-- NOTICE_READ_COMPLETE, R86: a notice read completes with this code and argument. -/
  | noticeReadComplete (slot : SlotId) (code arg : Byte)
  /-- CUE_WRITE_COMPLETE, R92. -/
  | cueWriteComplete (slot : SlotId)
  /-- NO_ANSWER, R82. -/
  | noAnswer (slot : SlotId)
  /-- SHORT_FRAME, R158: a transaction of this many bytes that is shorter than its frame declares. -/
  | shortFrame (link : Link) (clocked : Nat)
  /-- UNKNOWN_COMMAND, R158: a frame whose code names no command. -/
  | unknownCommand (code : Byte) (f : Frame)
  /-- NONE, R157. -/
  | noneFrame (f : Frame)
  /-- READ_SLOT, R16. -/
  | readSlot (f : Frame)
  /-- READ_LINKS, R110. -/
  | readLinks (f : Frame)
  /-- READ_SHELF, R79. -/
  | readShelf (f : Frame)
  /-- READ_QUEUES, R79. -/
  | readQueues (f : Frame)
  /-- READ_BATCH, R133. -/
  | readBatch (f : Frame)
  /-- READ_PENDING, R155. -/
  | readPending (f : Frame)
  /-- READ_EPISODE, R164. -/
  | readEpisode (f : Frame)
  /-- SET_POLICY, R3. -/
  | setPolicy (f : Frame)
  /-- SET_SHELF, R60. -/
  | setShelf (f : Frame)
  /-- SET_LEVEL, R146. -/
  | setLevel (f : Frame)
  /-- ADMIT, R43. -/
  | admitSlot (f : Frame)
  /-- DENY_ADMIT, R43. -/
  | denyAdmit (f : Frame)
  /-- RETIRE_ADD, R118. -/
  | retireAdd (f : Frame)
  /-- DENY_RETIRE, R115. -/
  | denyRetire (f : Frame)
  /-- BATCH_HOLD, R128. -/
  | batchHold (f : Frame)
  /-- BATCH_RESUME, R129. -/
  | batchResume (f : Frame)
  /-- BATCH_ABANDON, R130. -/
  | batchAbandon (f : Frame)
  /-- CLEAR_BATCH_FAULT, R131. -/
  | clearBatchFault (f : Frame)
  /-- CLEAR_SLOT, R142. -/
  | clearSlot (f : Frame)
  /-- THAW, R78. -/
  | thaw (f : Frame)
  /-- NEXT_ATTENTION, R151. -/
  | nextAttention (f : Frame)
  /-- SERVICE_DONE, R152. -/
  | serviceDone (f : Frame)
  /-- HOLDOFF, R153. -/
  | holdoff (f : Frame)
  /-- TAKEOVER, R162. -/
  | takeover (f : Frame)
  /-- RELEASE, R163. -/
  | release (f : Frame)
  /-- ACK_EPISODE, R165. -/
  | ackEpisode (f : Frame)
  /-- RESTART, R167. -/
  | restart (f : Frame)
  deriving DecidableEq, Repr

end Sys2Proof
end

