-- ==== Sys2Proof/WellFormed.lean ====
section
/-! DEFINITION. Which commands are well formed: the checks that make a transaction the row it is called. A command that
fails a check is not refused by the machine; R158 says what the bytes it carries do (log entry 28). -/

namespace Sys2Proof

/-- The codes that name commands (12 section 12.2). -/
def isCommandCode (c : Byte) : Bool :=
  (c.toNat ≤ 0x07) || (0x10 ≤ c.toNat && c.toNat ≤ 0x22) || c.toNat == 0x30

/-- The transaction brought at least the parameter bytes it declares, so it is no short frame (R158). -/
def Frame.complete (f : Frame) : Bool := f.len.toNat ≤ f.rest.length

/-- Well-formedness: a frame row's transaction is complete; a SHORT_FRAME has fewer bytes than three header bytes and
the longest declared length, 255; an UNKNOWN_COMMAND's code names no command (R158). Line, timer and channel events
have no ill-formed operands. -/
def Instr.wellFormed : Instr → Bool
  | .powerOn => true
  | .resetLAsserted => true
  | .resetLReleased => true
  | .lrstAsserted _ => true
  | .lrstReleased _ => true
  | .refclkLoss => true
  | .refclkReturn => true
  | .presenceEdge _ _ => true
  | .presenceSettled _ => true
  | .presenceLost _ => true
  | .handleEdge _ _ => true
  | .handleSettleExpiry _ => true
  | .pgoodRose _ => true
  | .pgoodFell _ => true
  | .faultAsserted _ _ => true
  | .notifyAsserted _ _ => true
  | .supplyLowEdge _ => true
  | .supplyLowSettleExpiry => true
  | .chargeTimeout _ => true
  | .coolDownExpiry _ => true
  | .stabilizeTimeExpiry _ => true
  | .bootTimeout _ => true
  | .powerOffTimerExpiry _ => true
  | .drainDeadlineExpiry _ => true
  | .isolatingLaneSettleExpiry _ => true
  | .entryLaneSettleExpiry _ _ => true
  | .gatherWindowExpiry => true
  | .channelLostPauseExpiry _ => true
  | .holdoffExpiry _ => true
  | .supervisionExpiry _ => true
  | .ledBlinkToggle _ => true
  | .identityReadComplete _ _ => true
  | .noticeReadComplete _ _ _ => true
  | .cueWriteComplete _ => true
  | .noAnswer _ => true
  | .shortFrame _ n => n < 3 + 255
  | .unknownCommand c f => !isCommandCode c && f.complete
  | .noneFrame f => f.complete
  | .readSlot f => f.complete
  | .readLinks f => f.complete
  | .readShelf f => f.complete
  | .readQueues f => f.complete
  | .readBatch f => f.complete
  | .readPending f => f.complete
  | .readEpisode f => f.complete
  | .setPolicy f => f.complete
  | .setShelf f => f.complete
  | .setLevel f => f.complete
  | .admitSlot f => f.complete
  | .denyAdmit f => f.complete
  | .retireAdd f => f.complete
  | .denyRetire f => f.complete
  | .batchHold f => f.complete
  | .batchResume f => f.complete
  | .batchAbandon f => f.complete
  | .clearBatchFault f => f.complete
  | .clearSlot f => f.complete
  | .thaw f => f.complete
  | .nextAttention f => f.complete
  | .serviceDone f => f.complete
  | .holdoff f => f.complete
  | .takeover f => f.complete
  | .release f => f.complete
  | .ackEpisode f => f.complete
  | .restart f => f.complete

end Sys2Proof
end

