-- ==== Sys2Proof/Decode.lean ====
section
/-! DEFINITION. Reading a command from bits. The opcode table gives no row any bits, so `decodeTableWord` spells no
command (log entry 24). The bytes of a link transaction do spell one (10 R158, 12 section 12.2): `decodeTransaction`
reads them and `encodeTransaction` writes them. -/

namespace Sys2Proof

/-- The command a word spells by the opcode table's bits: none, since the table gives bits to no row. -/
def decodeTableWord (_nbits _w : Nat) : Option Instr := none

/-- The command a code byte names (12 section 12.2), UNKNOWN_COMMAND where it names none (R158). -/
def decodeCode (code : Byte) (f : Frame) : Instr :=
  match code.toNat with
  | 0x00 => .noneFrame f
  | 0x01 => .readSlot f
  | 0x02 => .readLinks f
  | 0x03 => .readShelf f
  | 0x04 => .readQueues f
  | 0x05 => .readBatch f
  | 0x06 => .readPending f
  | 0x07 => .readEpisode f
  | 0x10 => .setPolicy f
  | 0x11 => .setShelf f
  | 0x12 => .setLevel f
  | 0x13 => .admitSlot f
  | 0x14 => .denyAdmit f
  | 0x15 => .retireAdd f
  | 0x16 => .denyRetire f
  | 0x17 => .batchHold f
  | 0x18 => .batchResume f
  | 0x19 => .batchAbandon f
  | 0x1A => .clearBatchFault f
  | 0x1B => .clearSlot f
  | 0x1C => .thaw f
  | 0x1D => .nextAttention f
  | 0x1E => .serviceDone f
  | 0x1F => .holdoff f
  | 0x20 => .takeover f
  | 0x21 => .release f
  | 0x22 => .ackEpisode f
  | 0x30 => .restart f
  | _ => .unknownCommand code f

/-- The row a transaction's bytes are (R158): fewer bytes than the three header bytes and the declared length are a
SHORT_FRAME; otherwise the code byte names the command. -/
def decodeTransaction (link : Link) (bytes : List Byte) : Instr :=
  match bytes with
  | code :: slot :: len :: rest =>
    if rest.length < len.toNat then .shortFrame link (3 + rest.length)
    else decodeCode code ⟨link, slot, len, rest⟩
  | short => .shortFrame link short.length

/-- The bytes of a transaction that carries this frame under this command code. -/
def Frame.bytes (f : Frame) (code : Byte) : List Byte := code :: f.slot :: f.len :: f.rest

/-- A transaction of n bytes that is a short frame: zeros below three bytes, else a header that declares 255
parameter bytes. -/
def shortFrameBytes (n : Nat) : List Byte :=
  if n < 3 then List.replicate n 0 else 0 :: 0 :: 255 :: List.replicate (n - 3) 0

/-- The link and the bytes of a command that is a link transaction; line, timer and channel events have none. -/
def encodeTransaction : Instr → Option (Link × List Byte)
  | .powerOn => none
  | .resetLAsserted => none
  | .resetLReleased => none
  | .lrstAsserted _ => none
  | .lrstReleased _ => none
  | .refclkLoss => none
  | .refclkReturn => none
  | .presenceEdge _ _ => none
  | .presenceSettled _ => none
  | .presenceLost _ => none
  | .handleEdge _ _ => none
  | .handleSettleExpiry _ => none
  | .pgoodRose _ => none
  | .pgoodFell _ => none
  | .faultAsserted _ _ => none
  | .notifyAsserted _ _ => none
  | .supplyLowEdge _ => none
  | .supplyLowSettleExpiry => none
  | .chargeTimeout _ => none
  | .coolDownExpiry _ => none
  | .stabilizeTimeExpiry _ => none
  | .bootTimeout _ => none
  | .powerOffTimerExpiry _ => none
  | .drainDeadlineExpiry _ => none
  | .isolatingLaneSettleExpiry _ => none
  | .entryLaneSettleExpiry _ _ => none
  | .gatherWindowExpiry => none
  | .channelLostPauseExpiry _ => none
  | .holdoffExpiry _ => none
  | .supervisionExpiry _ => none
  | .ledBlinkToggle _ => none
  | .identityReadComplete _ _ => none
  | .noticeReadComplete _ _ _ => none
  | .cueWriteComplete _ => none
  | .noAnswer _ => none
  | .shortFrame link n => some (link, shortFrameBytes n)
  | .unknownCommand c f => some (f.link, f.bytes c)
  | .noneFrame f => some (f.link, f.bytes 0x00)
  | .readSlot f => some (f.link, f.bytes 0x01)
  | .readLinks f => some (f.link, f.bytes 0x02)
  | .readShelf f => some (f.link, f.bytes 0x03)
  | .readQueues f => some (f.link, f.bytes 0x04)
  | .readBatch f => some (f.link, f.bytes 0x05)
  | .readPending f => some (f.link, f.bytes 0x06)
  | .readEpisode f => some (f.link, f.bytes 0x07)
  | .setPolicy f => some (f.link, f.bytes 0x10)
  | .setShelf f => some (f.link, f.bytes 0x11)
  | .setLevel f => some (f.link, f.bytes 0x12)
  | .admitSlot f => some (f.link, f.bytes 0x13)
  | .denyAdmit f => some (f.link, f.bytes 0x14)
  | .retireAdd f => some (f.link, f.bytes 0x15)
  | .denyRetire f => some (f.link, f.bytes 0x16)
  | .batchHold f => some (f.link, f.bytes 0x17)
  | .batchResume f => some (f.link, f.bytes 0x18)
  | .batchAbandon f => some (f.link, f.bytes 0x19)
  | .clearBatchFault f => some (f.link, f.bytes 0x1A)
  | .clearSlot f => some (f.link, f.bytes 0x1B)
  | .thaw f => some (f.link, f.bytes 0x1C)
  | .nextAttention f => some (f.link, f.bytes 0x1D)
  | .serviceDone f => some (f.link, f.bytes 0x1E)
  | .holdoff f => some (f.link, f.bytes 0x1F)
  | .takeover f => some (f.link, f.bytes 0x20)
  | .release f => some (f.link, f.bytes 0x21)
  | .ackEpisode f => some (f.link, f.bytes 0x22)
  | .restart f => some (f.link, f.bytes 0x30)

end Sys2Proof
end

