-- ==== Sys2Proof/Config.lean ====
section
/-! DEFINITION. The durations and counts the manual fixes for every GS1624, and the one free value of the model. -/

namespace Sys2Proof.Config

/-- Handle settle time, ms (R23). -/
def handleSettle : Nat := 16
/-- SUPPLY_LOW settle time, ms (R26). -/
def supplySettle : Nat := 2
/-- Cool-down after an inrush fault, ms (R8). -/
def coolDown : Nat := 500
/-- Stabilize time, ms (R8). -/
def stabilize : Nat := 20
/-- Longest boot timer, s (R8). -/
def bootLimit : Nat := 600
/-- Channel-lost pause, ms (R88). -/
def channelPause : Nat := 1000
/-- Attempts at one transfer (R82). -/
def attempts : Nat := 3
/-- Half-period of SLOW_BLINK, ms (R31). -/
def slowHalf : Nat := 500
/-- Half-period of FAST_BLINK, ms (R31). -/
def fastHalf : Nat := 125
/-- ILIM code while MAIN_EN is ON (R30). -/
def ilimMain : Nat := 15
/-- Largest join stamp, where the counter stays (R68). -/
def stampMax : Nat := 4294967295
/-- Modulus of the elapsed-time count (R164). -/
def elapsedModulus : Nat := 4294967296
/-- Largest holdoff, ms (R153). -/
def holdoffMax : Nat := 16383
/-- Entries a service stack may hold (R149). -/
def stackMax : Nat := 8
/-- Largest grant a power part can hold, W (R62). -/
def grantMax : Nat := 1000
/-- Longest parameter field of a frame (R157). -/
def paramMax : Nat := 12

/-- FREE VALUE (log entry 4). Which of several expiries that fall together is taken first: the manual says either may
be (00 section 6, R8). Applied to the count of such choices made so far; nothing is known of it. -/
opaque coincidence : Nat → Nat

end Sys2Proof.Config
end

