-- ==== Sys2Proof/Machine/State.lean ====
section
/-! DEFINITION. The state of the GS1624 as plain data: sixteen slots (record, lines, conditioning, outputs, channel
engine), the Link Table, the power accounts, the Retirement Batch, the Attention Controller, the two link ports, the
Episode Record, the shelf lines and the queue of commands; and the state right after power-on. A timer is
`Option Nat`: absent while it does not run, else its remaining milliseconds (R19). -/

namespace Sys2Proof.Machine

open Sys2Proof

/-! ## Slot records (chapter 1) -/

/-- The roles a slot may be given (R2). -/
inductive Role where
  | unused
  | payload
  | hub
  deriving DecidableEq, Repr

/-- Whether an identified slot needs approval (R2). -/
inductive AdmitMode where
  | auto
  | held
  deriving DecidableEq, Repr

/-- The policy part of a record (R2). Durations are milliseconds but for the boot default, which is seconds. -/
structure Policy where
  role : Role
  admitMode : AdmitMode
  priority : Nat
  slotCap : Nat
  inrushLimit : Nat
  chargeTimeout : Nat
  chargeRetries : Nat
  bootDefault : Nat
  autoRetire : Bool
  /-- The HDL level that means the handle is open. -/
  openPolarity : Level
  presenceDebounce : Nat
  presenceLoss : Nat
  deriving DecidableEq, Repr

/-- The twenty lifecycle states (R7), in the order of its table. -/
inductive SlotState where
  | empty
  | settling
  | identifying
  | identified
  | rejected
  | budgetWait
  | queued
  | charging
  | cooling
  | stabilizing
  | powered
  | inService
  | retirePending
  | draining
  | isolating
  | poweringDown
  | vacantReady
  | faulted
  | stuck
  | recovering
  deriving DecidableEq, Repr

/-- The reason codes (R9), in the order of its table. -/
inductive ReasonCode where
  | idFormat
  | idUnreadable
  | roleMismatch
  | noFabric
  | overCap
  | denied
  | inrushFault
  | runFault
  | bootTimeout
  | stuck
  deriving DecidableEq, Repr

/-- The states a retiring slot may go back to: the prior state (R11) and a member's return state (R117). -/
inductive ReturnState where
  | inService
  | powered
  deriving DecidableEq, Repr

/-- What a blade says it is (R12). -/
inductive BladeKind where
  | payload
  | hub
  | either
  deriving DecidableEq, Repr

/-- Which hubs a blade's fabric reaches (R12). -/
inductive FabricMask where
  | hubA
  | hubB
  | both
  deriving DecidableEq, Repr

/-- The identity part (R12). The block's pad bytes are 0 and its check byte is determined by the rest (R175). -/
structure Identity where
  kind : BladeKind
  /-- In units of 0.1 W. -/
  demand : Nat
  fabric : FabricMask
  inrushClass : Nat
  /-- In seconds; 0 means none declared. -/
  bootAllowance : Nat
  serial : Vector Byte 16
  model : Vector Byte 6
  deriving DecidableEq, Repr

/-- The power part (R13). -/
structure PowerPart where
  grant : Nat
  reserved : Bool
  joinStamp : Option Nat
  permitHeld : Bool
  deriving DecidableEq, Repr

/-- The last notice (R14). -/
structure Notice where
  code : Byte
  arg : Byte
  deriving DecidableEq, Repr

/-- A slot record (R1 to R14), with the scanner's mark (R170) and the Sequencer's memory of the written warning
(implied by R124). The cue queue copy of R14 is the engine's queue itself (log entry 13). -/
structure SlotRecord where
  policy : Policy
  state : SlotState
  phaseTimer : Option Nat
  /-- The drain deadline of a member is paused while the batch is HOLDING (R8, R128). -/
  phasePaused : Bool
  reason : Option ReasonCode
  retriesUsed : Nat
  handleClosed : Bool
  approved : Bool
  faultOutstanding : Bool
  adopted : Bool
  idUnverified : Bool
  floorApplied : Bool
  channelLost : Bool
  batchMember : Bool
  priorState : Option ReturnState
  identity : Option Identity
  power : Option PowerPart
  lastNotice : Option Notice
  laneEvidence : Bool
  warningWritten : Bool
  deriving DecidableEq, Repr

/-! ## Slot lines (chapter 2) -/

/-- The input lines of one slot as the outside drives them (section 2.2). -/
structure InputLines where
  presL : Level
  hdl : Level
  pgood : Level
  fltL : Level
  ntfyL : Level
  deriving DecidableEq, Repr

/-- The SLI's presence and handle filters of one slot (R20 to R23). The filter mode is the slot's state's (R20, R21),
and the filtered handle meaning is the record's handle closed flag (log entry 13). -/
structure Conditioning where
  /-- The filtered presence level is PRESENT. -/
  present : Bool
  debounce : Option Nat
  loss : Option Nat
  handle : Option Nat
  deriving DecidableEq, Repr

/-- The patterns of the removal LED (R31). -/
inductive LedPattern where
  | off
  | on
  | slowBlink
  | fastBlink
  deriving DecidableEq, Repr

/-- The output lines of one slot (section 2.4): for an enable, true is ON. -/
structure OutputLines where
  preEn : Bool
  mainEn : Bool
  ilim : Nat
  laneEnA : Bool
  laneEnB : Bool
  led : LedPattern
  /-- Whether the LED is lit at this moment. -/
  lit : Bool
  /-- The remaining half-period of a blinking pattern. -/
  blink : Option Nat
  deriving DecidableEq, Repr

/-! ## Slot channel (chapter 5) -/

/-- A cue: the hub cues carry the hub's slot (section 5.5). -/
inductive Cue where
  | linkUp (hub : SlotId)
  | linkDown (hub : SlotId)
  | drain (hub : SlotId)
  | undrain (hub : SlotId)
  | retireAccepted
  | retireDenied
  | powerOffWarning
  | statusQuery
  deriving DecidableEq, Repr

/-- The kinds of transfer (R82); a cue write carries the cue being written. -/
inductive TransferKind where
  | identityRead
  | noticeRead
  | cueWrite (cue : Cue)
  deriving DecidableEq, Repr

/-- The transfer in flight and the number of its attempt, 1 to 3. -/
structure Transfer where
  kind : TransferKind
  attempt : Nat
  deriving DecidableEq, Repr

/-- The two kinds of blade conversation (R83). -/
inductive ServedKind where
  | notice
  | cue
  deriving DecidableEq, Repr

/-- A Slot Channel Engine (chapter 5, introduction). -/
structure Channel where
  transfer : Option Transfer
  identityDue : Bool
  noticePending : Bool
  cueQueue : List Cue
  lastServed : ServedKind
  pause : Option Nat
  deriving DecidableEq, Repr

/-- Everything the part holds for one slot. -/
structure Slot where
  record : SlotRecord
  lines : InputLines
  cond : Conditioning
  out : OutputLines
  chan : Channel
  deriving DecidableEq, Repr

/-! ## Link Table (chapter 6) -/

/-- Link states (R95). -/
inductive LinkState where
  | open
  | joining
  | joined
  | drainAsked
  | drained
  deriving DecidableEq, Repr

/-- What the payload blade has been told of a lane group (R95). -/
inductive LinkUp where
  | none
  | offered
  | delivered
  deriving DecidableEq, Repr

/-- A Link Table entry (R95). `held` marks an entry a restart has kept JOINED and not yet decided (R173). -/
structure LinkEntry where
  payload : SlotId
  hub : HubName
  hubSlot : SlotId
  linkState : LinkState
  linkUp : LinkUp
  settle : Option Nat
  held : Bool
  deriving DecidableEq, Repr

/-! ## Power Admission Unit (chapter 4) -/

/-- The shelf settings (R59). -/
structure ShelfSettings where
  budget : Nat
  margin : Nat
  floor : Nat
  permitLimit : Nat
  laneSettle : Nat
  drainDeadline : Nat
  powerOffTime : Nat
  gatherWindow : Nat
  supervisionTime : Nat
  deriving DecidableEq, Repr

/-- The power accounts (chapter 4, introduction). The lists hold slots; the grant and stamp of a listed slot stand in
its power part (R13) and its priority in its policy (R2). -/
structure PowerAccounts where
  sumOfGrants : Nat
  deficit : Bool
  waitList : List SlotId
  permitQueue : List SlotId
  holders : List SlotId
  stampCounter : Nat
  freeze : Bool
  deriving DecidableEq, Repr

/-! ## Retirement Batch (chapter 7) -/

/-- Batch states, in the order of section 7.2. -/
inductive BatchState where
  | idle
  | gathering
  | running
  | holding
  | abandoning
  | done
  | doneFault
  deriving DecidableEq, Repr

/-- Member outcomes, in the order of R117. -/
inductive MemberOutcome where
  | retired
  | extracted
  | stuck
  | faulted
  | drainTimeout
  | abandoned
  deriving DecidableEq, Repr

/-- A batch member (R117). -/
structure Member where
  slot : SlotId
  force : Bool
  started : Bool
  returnState : Option ReturnState
  outcome : Option MemberOutcome
  deriving DecidableEq, Repr

/-- The Retirement Batch (R117). -/
structure Batch where
  state : BatchState
  window : Option Nat
  members : List Member
  deriving DecidableEq, Repr

/-! ## Attention Controller (chapter 9) -/

/-- The eleven slot classes of R145, in natural order. -/
inductive SlotClass where
  | powerFault
  | surpriseExtraction
  | rejected
  | retireRequest
  | drainTimeout
  | inService
  | retired
  | identified
  | extracted
  | notice
  | channel
  deriving DecidableEq, Repr

/-- The six shelf classes of R145, in natural order. -/
inductive ShelfClass where
  | faultStorm
  | restarted
  | link
  | budget
  | supply
  | batchEnd
  deriving DecidableEq, Repr

/-- The kinds of POWER_FAULT (R145). -/
inductive FaultKind where
  | inrush
  | bootTimeout
  | run
  | stuck
  deriving DecidableEq, Repr

/-- The causes of a role change (R160), in the order of its detail table. -/
inductive LinkCause where
  | silent
  | resumed
  | takeover
  | release
  | reset
  deriving DecidableEq, Repr

/-- Who asked for a retirement (R112). -/
inductive RequestCause where
  | handle
  | blade
  deriving DecidableEq, Repr

/-- What a restart was caused by (R174). -/
inductive RestartCause where
  | resetLine
  | command
  deriving DecidableEq, Repr

/-- Event details (R145). -/
inductive Detail where
  | fault (kind : FaultKind)
  | leftState (state : SlotState)
  | reason (code : ReasonCode)
  | request (cause : RequestCause)
  | count (n : Nat)
  /-- IN_SERVICE: READY, or ADOPTED where true. -/
  | inService (adopted : Bool)
  /-- RETIRED: ABORTED, or BATCH where true. -/
  | retired (batch : Bool)
  | notice (code arg : Byte)
  /-- CHANNEL: LOST, or RESTORED where true. -/
  | channel (restored : Bool)
  | storm (slot : SlotId)
  | restarted (cause : RestartCause)
  | link (cause : LinkCause) (link : Link)
  /-- BUDGET: DEFICIT, or CLEARED where true. -/
  | budget (cleared : Bool)
  /-- SUPPLY: ASSERTED, or REMOVED where true. -/
  | supply (removed : Bool)
  /-- BATCH_END: DONE, or DONE_FAULT where true. -/
  | batchEnd (fault : Bool)
  deriving DecidableEq, Repr

/-- A Pending Table entry (R147). -/
structure PendingEntry where
  pending : Bool
  repeated : Bool
  detail : Option Detail
  deriving DecidableEq, Repr

/-- The levels of the fourteen programmable classes (R145). -/
structure ClassLevels where
  rejected : Nat
  retireRequest : Nat
  drainTimeout : Nat
  inService : Nat
  retired : Nat
  identified : Nat
  extracted : Nat
  notice : Nat
  channel : Nat
  restarted : Nat
  link : Nat
  budget : Nat
  supply : Nat
  batchEnd : Nat
  deriving DecidableEq, Repr

/-- The Attention Controller's table, levels and lines; each link's service state stands in its port. The slot rows are
indexed by slot and natural order, the shelf row by natural order: 16 × 11 + 6 = 182 entries (R147). -/
structure Attention where
  levels : ClassLevels
  slotEvents : Vector (Vector PendingEntry 11) 16
  shelfEvents : Vector PendingEntry 6
  attnA : Bool
  attnB : Bool
  deriving DecidableEq, Repr

/-! ## Management links (chapter 10) -/

/-- Status codes (R168), in the order of its table. -/
inductive Status where
  | ok
  | okClamped
  | unknownCommand
  | badSlot
  | badField
  | wrongState
  | notActive
  | quarantined
  | batchBusy
  | batchFaulted
  | duplicate
  | hubLimit
  | stackFull
  | nothingPending
  | stillPowered
  deriving DecidableEq, Repr

/-- A response frame (R157). -/
structure Response where
  status : Status
  code : Byte
  overrun : Bool
  data : List Byte
  deriving DecidableEq, Repr

/-- Link roles (R160). -/
inductive LinkRole where
  | active
  | standby
  | silent
  deriving DecidableEq, Repr

/-- A Management Link Port, with the service state the Attention Controller keeps for its link (R149; the stack is
bottom first). -/
structure Port where
  role : LinkRole
  supervision : Option Nat
  held : Option Response
  /-- The LRST line is low: the port is in reset (R166). -/
  inReset : Bool
  level : Nat
  stack : List Nat
  holdoff : Option Nat
  deriving DecidableEq, Repr

/-- States of the Episode Record (R164). -/
inductive EpisodeState where
  | none
  | open
  | closed
  deriving DecidableEq, Repr

/-- The Episode Record (R164). The retired slots are a set, kept in slot order. -/
structure Episode where
  state : EpisodeState
  silentLink : Option Link
  start : Option Nat
  endOfSilence : Option Nat
  retired : List SlotId
  deriving DecidableEq, Repr

/-- The shelf-wide lines and their conditioning (R19, R26, R34). -/
structure ShelfLines where
  supplyLow : Level
  /-- The filtered SUPPLY_LOW level is ASSERTED. -/
  supplyAsserted : Bool
  supplySettle : Option Nat
  /-- REFCLK is present. -/
  refclk : Bool
  /-- A restart has begun with RESET_L and has not proceeded: RESET_L is low (R169). -/
  inReset : Bool
  deriving DecidableEq, Repr

/-- The state of the part. -/
structure State where
  slots : Vector Slot 16
  links : List LinkEntry
  settings : ShelfSettings
  power : PowerAccounts
  batch : Batch
  attention : Attention
  portA : Port
  portB : Port
  episode : Episode
  elapsed : Nat
  shelf : ShelfLines
  /-- MODEL's own: how many choices among expiries that fall together have been made (log entry 4). -/
  coincidences : Nat
  /-- MODEL's own: the commands that wait, first in, first out. -/
  pending : List Instr
  deriving DecidableEq, Repr

/-- No command of the GS1624 stops the part, so there is no fault to name. -/
inductive Fault : Type
  deriving DecidableEq, Repr

/-- Why a command has no meaning. -/
inductive Refusal where
  /-- Raised by `exec` for a command that is not modelled yet; safe, since the machine stops. No arm raises it now. -/
  | notModelled (mnemonic : String)
  deriving DecidableEq, Repr

/-! ## The state right after power-on (R2, R17, R27, R33, R59, R80, R81, R111, R117, R156, R167) -/

/-- Policy defaults (R2). -/
def Policy.default : Policy :=
  { role := .unused, admitMode := .held, priority := 4, slotCap := 300, inrushLimit := 8, chargeTimeout := 200,
    chargeRetries := 1, bootDefault := 120, autoRetire := false, openPolarity := .low, presenceDebounce := 100,
    presenceLoss := 4 }

/-- A record after power-on (R17); also, but for policy and handle closed, a record before classification (R18). -/
def SlotRecord.initial (p : Policy) : SlotRecord :=
  { policy := p, state := .empty, phaseTimer := none, phasePaused := false, reason := none, retriesUsed := 0,
    handleClosed := false, approved := false, faultOutstanding := false, adopted := false, idUnverified := false,
    floorApplied := false, channelLost := false, batchMember := false, priorState := none, identity := none,
    power := none, lastNotice := none, laneEvidence := false, warningWritten := false }

/-- The levels the internal pull-ups give unconnected lines (section 2.6); the input levels of `State.reset`
(DESIGN CHOICE, unsafe; log entry 1). -/
def InputLines.unconnected : InputLines :=
  { presL := .high, hdl := .high, pgood := .low, fltL := .high, ntfyL := .high }

/-- Every output OFF (R33). -/
def OutputLines.allOff : OutputLines :=
  { preEn := false, mainEn := false, ilim := 0, laneEnA := false, laneEnB := false, led := .off, lit := false,
    blink := none }

/-- An idle engine (R81). -/
def Channel.idle : Channel :=
  { transfer := none, identityDue := false, noticePending := false, cueQueue := [], lastServed := .cue, pause := none }

/-- A slot after power-on with its presence line high (R17, R27, R33, R81). -/
def Slot.initial : Slot :=
  { record := SlotRecord.initial Policy.default
    lines := InputLines.unconnected
    cond := { present := false, debounce := none, loss := none, handle := some Config.handleSettle }
    out := OutputLines.allOff
    chan := Channel.idle }

/-- Shelf setting defaults (R59). -/
def ShelfSettings.default : ShelfSettings :=
  { budget := 0, margin := 10, floor := 10, permitLimit := 2, laneSettle := 5, drainDeadline := 5000,
    powerOffTime := 500, gatherWindow := 50, supervisionTime := 1000 }

/-- The power accounts after power-on and after a restart (R80). -/
def PowerAccounts.initial : PowerAccounts :=
  { sumOfGrants := 0, deficit := false, waitList := [], permitQueue := [], holders := [], stampCounter := 0,
    freeze := false }

/-- The batch after power-on and after a restart (R117). -/
def Batch.initial : Batch := { state := .idle, window := none, members := [] }

/-- Default class levels (R145). -/
def ClassLevels.default : ClassLevels :=
  { rejected := 7, retireRequest := 6, drainTimeout := 6, inService := 4, retired := 4, identified := 4, extracted := 2,
    notice := 3, channel := 5, restarted := 7, link := 7, budget := 6, supply := 6, batchEnd := 5 }

/-- A Pending Table entry after power-on (R156). -/
def PendingEntry.clear : PendingEntry := { pending := false, repeated := false, detail := none }

/-- The Attention Controller after power-on (R156). -/
def Attention.initial : Attention :=
  { levels := ClassLevels.default
    slotEvents := Vector.replicate 16 (Vector.replicate 11 PendingEntry.clear)
    shelfEvents := Vector.replicate 6 PendingEntry.clear
    attnA := false
    attnB := false }

/-- A port after power-on and after a restart (R149, R167). -/
def Port.initial (inReset : Bool) : Port :=
  { role := .standby, supervision := none, held := none, inReset := inReset, level := 0, stack := [], holdoff := none }

/-- The Episode Record after power-on and after a restart (R167). -/
def Episode.initial : Episode :=
  { state := .none, silentLink := none, start := none, endOfSilence := none, retired := [] }

/-- The shelf lines after power-on (R27), with the outside levels of log entry 1. -/
def ShelfLines.initial : ShelfLines :=
  { supplyLow := .low, supplyAsserted := false, supplySettle := some Config.supplySettle, refclk := true,
    inReset := false }

/-- The part right after power-on, with unconnected slot lines and an empty queue. -/
def State.reset : State :=
  { slots := Vector.replicate 16 Slot.initial
    links := []
    settings := ShelfSettings.default
    power := PowerAccounts.initial
    batch := Batch.initial
    attention := Attention.initial
    portA := Port.initial false
    portB := Port.initial false
    episode := Episode.initial
    elapsed := 0
    shelf := ShelfLines.initial
    coincidences := 0
    pending := [] }

end Sys2Proof.Machine
end

