-- ==== Sys2Proof/Machine/Ops.lean ====
section
/-! DEFINITION. Named access to the state: slots, records, ports, timers, the sets of slot states the rules speak of,
and the hand-overs of one step. -/

namespace Sys2Proof.Machine

open Sys2Proof

/-! ## Access -/

/-- One slot. -/
def State.slot (s : State) (i : SlotId) : Slot := s.slots[i]

/-- The lifecycle state of a slot. -/
def State.stateOf (s : State) (i : SlotId) : SlotState := (s.slot i).record.state

/-- The record of a slot. -/
def State.recordOf (s : State) (i : SlotId) : SlotRecord := (s.slot i).record

/-- Replace one slot. -/
def State.setSlot (i : SlotId) (x : Slot) (s : State) : State := { s with slots := s.slots.set i x }

/-- Change one slot. -/
def State.modSlot (i : SlotId) (f : Slot → Slot) (s : State) : State := s.setSlot i (f (s.slot i))

/-- Change one slot's record. -/
def State.modRecord (i : SlotId) (f : SlotRecord → SlotRecord) (s : State) : State :=
  s.modSlot i fun x => { x with record := f x.record }

/-- Change one slot's input lines. -/
def State.modLines (i : SlotId) (f : InputLines → InputLines) (s : State) : State :=
  s.modSlot i fun x => { x with lines := f x.lines }

/-- Change one slot's filters. -/
def State.modCond (i : SlotId) (f : Conditioning → Conditioning) (s : State) : State :=
  s.modSlot i fun x => { x with cond := f x.cond }

/-- Change one slot's output lines. -/
def State.modOut (i : SlotId) (f : OutputLines → OutputLines) (s : State) : State :=
  s.modSlot i fun x => { x with out := f x.out }

/-- Change one slot's channel engine. -/
def State.modChan (i : SlotId) (f : Channel → Channel) (s : State) : State :=
  s.modSlot i fun x => { x with chan := f x.chan }

/-- Change every slot, each by a function that knows its number. -/
def State.mapSlots (f : SlotId → Slot → Slot) (s : State) : State :=
  { s with slots := Vector.ofFn fun i => f i (s.slot i) }

/-- Change the power accounts. -/
def State.modPower (f : PowerAccounts → PowerAccounts) (s : State) : State := { s with power := f s.power }

/-- Change the batch. -/
def State.modBatch (f : Batch → Batch) (s : State) : State := { s with batch := f s.batch }

/-- Change the shelf lines. -/
def State.modShelf (f : ShelfLines → ShelfLines) (s : State) : State := { s with shelf := f s.shelf }

/-- The port of a link. -/
def State.port (s : State) : Link → Port
  | .a => s.portA
  | .b => s.portB

/-- Change the port of a link. -/
def State.modPort (l : Link) (f : Port → Port) (s : State) : State :=
  match l with
  | .a => { s with portA := f s.portA }
  | .b => { s with portB := f s.portB }

/-! ## Roles and hubs -/

/-- The role of a slot. -/
def State.roleOf (s : State) (i : SlotId) : Role := (s.recordOf i).policy.role

/-- The slots whose role is HUB, in slot order. -/
def State.hubSlots (s : State) : List SlotId := allSlots.filter fun i => s.roleOf i == .hub

/-- The slot of a hub name (00 section 2): hub A is the lower-numbered HUB slot, hub B the higher-numbered one. -/
def State.hubNamed (s : State) : HubName → Option SlotId
  | .a => s.hubSlots[0]?
  | .b => s.hubSlots[1]?

/-- A link is ACTIVE. -/
def State.anyActive (s : State) : Bool := s.portA.role == .active || s.portB.role == .active

/-! ## Sets of slot states -/

/-- The DEBOUNCE set of the presence filter (R22). -/
def SlotState.debounces (st : SlotState) : Bool :=
  match st with
  | .empty | .settling => true
  | _ => false

/-- The conversing states (R85). -/
def SlotState.conversing (st : SlotState) : Bool :=
  match st with
  | .powered | .inService | .retirePending | .draining | .isolating | .recovering => true
  | _ => false

/-- The states in which a run fault is taken (R134). -/
def SlotState.runFaults (st : SlotState) : Bool := st.conversing

/-- The states on whose entry a grant is released and the power part removed (R13, R63). -/
def SlotState.releasesGrant (st : SlotState) : Bool :=
  match st with
  | .empty | .identified | .vacantReady | .faulted => true
  | _ => false

/-- The states in which a slot holds a reserved grant, but for RECOVERING (R63). -/
def SlotState.holdsGrant (st : SlotState) : Bool :=
  match st with
  | .queued | .charging | .cooling | .stabilizing | .powered | .inService | .retirePending | .draining | .isolating
  | .poweringDown | .stuck => true
  | _ => false

/-- The states in which the reason code is present (R9). -/
def SlotState.hasReason (st : SlotState) : Bool :=
  match st with
  | .rejected | .faulted | .stuck => true
  | _ => false

/-- The states in which PRE_EN is ON (R28). -/
def SlotState.preEnOn (st : SlotState) : Bool :=
  match st with
  | .charging => true
  | _ => false

/-- The states in which MAIN_EN is ON (R28). -/
def SlotState.mainEnOn (st : SlotState) : Bool :=
  match st with
  | .stabilizing | .powered | .inService | .retirePending | .draining | .isolating | .recovering => true
  | _ => false

/-- The LED pattern of a state (R7, R31). -/
def SlotState.ledPattern (st : SlotState) : LedPattern :=
  match st with
  | .identified | .rejected | .vacantReady | .faulted => .on
  | .retirePending | .draining | .isolating | .poweringDown => .slowBlink
  | .stuck => .fastBlink
  | _ => .off

/-- The states both ends of a lane group may be in while it is decided or carried (R173). -/
def SlotState.keepsLanes (st : SlotState) : Bool :=
  match st with
  | .inService | .retirePending => true
  | _ => false

/-- The states from which a role change is accepted (R3). -/
def SlotState.acceptsRole (st : SlotState) : Bool :=
  match st with
  | .empty | .identified | .rejected | .vacantReady | .faulted => true
  | _ => false

/-- The state a return state names (R116, R123). -/
def ReturnState.toState : ReturnState → SlotState
  | .inService => .inService
  | .powered => .powered

/-! ## Lists of slots -/

/-- A list of slots without a slot. -/
def without (i : SlotId) (l : List SlotId) : List SlotId := l.filter (· != i)

/-- Insert a slot at its place in a list kept in the order `before`. -/
def insertSlot (before : SlotId → SlotId → Bool) (i : SlotId) : List SlotId → List SlotId
  | [] => [i]
  | j :: t => if before i j then i :: j :: t else j :: insertSlot before i t

/-- Slot order, smallest number first. -/
def slotBefore (i j : SlotId) : Bool := decide (i < j)

/-- The join stamp of a slot; a slot on a list always has one (R68). -/
def State.stampOf (s : State) (i : SlotId) : Nat :=
  match (s.recordOf i).power with
  | some p => p.joinStamp.getD 0
  | none => 0

/-- The grant of a slot's power part. -/
def State.grantOf (s : State) (i : SlotId) : Nat :=
  match (s.recordOf i).power with
  | some p => p.grant
  | none => 0

/-- The grant a record holds reserved, 0 where it holds none (R63). -/
def SlotRecord.reservedGrant (r : SlotRecord) : Nat :=
  match r.power with
  | some p => if p.reserved then p.grant else 0
  | none => 0

/-- The slot holds an inrush permit (R13). -/
def SlotRecord.holdsPermit (r : SlotRecord) : Bool :=
  match r.power with
  | some p => p.permitHeld
  | none => false

/-- Order of the Budget Wait List (R69): join stamp, then slot number. -/
def State.waitsBefore (s : State) (i j : SlotId) : Bool :=
  decide (s.stampOf i < s.stampOf j) || (s.stampOf i == s.stampOf j && slotBefore i j)

/-- Order of the Inrush Permit Queue (R71): priority, highest first, then join stamp, then slot number. -/
def State.queuesBefore (s : State) (i j : SlotId) : Bool :=
  let pi := (s.recordOf i).policy.priority
  let pj := (s.recordOf j).policy.priority
  decide (pj < pi) || (pi == pj && s.waitsBefore i j)

/-! ## Link Table entries -/

/-- The entry has the slot at one of its ends. -/
def LinkEntry.touches (e : LinkEntry) (i : SlotId) : Bool := e.payload == i || e.hubSlot == i

/-- The end of an entry that is not the slot. -/
def LinkEntry.otherEnd (e : LinkEntry) (i : SlotId) : SlotId := if e.payload == i then e.hubSlot else e.payload

/-- The entry of a payload slot and a hub slot. -/
def LinkEntry.isPair (p h : SlotId) (e : LinkEntry) : Bool := e.payload == p && e.hubSlot == h

/-- The entry of a payload slot and a hub slot, if the table has one. -/
def State.entry (s : State) (p h : SlotId) : Option LinkEntry := s.links.find? (LinkEntry.isPair p h)

/-- The pairs of the entries touching a slot, in table order. -/
def State.pairsTouching (s : State) (i : SlotId) : List (SlotId × SlotId) :=
  (s.links.filter (·.touches i)).map fun e => (e.payload, e.hubSlot)

/-! ## Hand-overs

Blocks hand events to one another inside a step. An event is taken whole; what it hands over is taken after it, in the
order handed over (log entry 6). -/

/-- What may be handed over inside a step. -/
inductive Handover where
  /-- FLT_L was low when an update turned an enable ON (R24). -/
  | fault (slot : SlotId)
  /-- The presence line differed from the filtered level on entry to the DEBOUNCE set (R22). -/
  | presenceEdge (slot : SlotId)
  /-- The Lane Manager reports the slot drained (R105). -/
  | drained (slot : SlotId)
  /-- The Batch Engine considers every slot for autonomous retirement (R132). -/
  | considerAll
  deriving DecidableEq, Repr

/-- A state inside a step, with the hand-overs that wait. -/
structure Work where
  st : State
  todo : List Handover
  deriving DecidableEq, Repr

/-- The state at the start of a step: nothing waits. -/
def Work.start (s : State) : Work := { st := s, todo := [] }

/-- Change the state. -/
def Work.on (f : State → State) (w : Work) : Work := { w with st := f w.st }

/-- Hand events over. -/
def Work.hand (hs : List Handover) (w : Work) : Work := { w with todo := w.todo ++ hs }

/-! ## Timers -/

/-- The expiry of a timer can be taken: the timer runs, REFCLK is present and no restart has begun (R19, R169). -/
def State.expires (s : State) (timer : Option Nat) : Bool := timer.isSome && s.shelf.refclk && !s.shelf.inReset

/-- The remaining count a timer shows, 0 when it does not run (R8). -/
def remaining (timer : Option Nat) : Nat := timer.getD 0

end Sys2Proof.Machine
end

