-- ==== Sys2Proof/Machine/Attention.lean ====
section
/-! DEFINITION. The Attention Controller: classes and levels (R145), the Pending Table (R147, R148), deliverability
(R150), selection (R151) and the attention lines (R154). -/

namespace Sys2Proof.Machine

open Sys2Proof

/-- Natural order of the slot classes (R145), from 0. -/
def SlotClass.index : SlotClass → Fin 11
  | .powerFault => 0
  | .surpriseExtraction => 1
  | .rejected => 2
  | .retireRequest => 3
  | .drainTimeout => 4
  | .inService => 5
  | .retired => 6
  | .identified => 7
  | .extracted => 8
  | .notice => 9
  | .channel => 10

/-- Natural order of the shelf classes (R145), from 0. -/
def ShelfClass.index : ShelfClass → Fin 6
  | .faultStorm => 0
  | .restarted => 1
  | .link => 2
  | .budget => 3
  | .supply => 4
  | .batchEnd => 5

/-- The slot classes in natural order. -/
def slotClasses : List SlotClass :=
  [.powerFault, .surpriseExtraction, .rejected, .retireRequest, .drainTimeout, .inService, .retired, .identified,
   .extracted, .notice, .channel]

/-- The shelf classes in natural order. -/
def shelfClasses : List ShelfClass := [.faultStorm, .restarted, .link, .budget, .supply, .batchEnd]

/-- Any of the seventeen classes (R145). -/
inductive EventClass where
  | slot (c : SlotClass)
  | shelf (c : ShelfClass)
  deriving DecidableEq, Repr

/-- The seventeen classes in natural order. -/
def eventClasses : List EventClass := slotClasses.map .slot ++ shelfClasses.map .shelf

/-- The key of a Pending Table entry: a slot and a slot class, or slot 0 and a shelf class (R147). -/
inductive EventKey where
  | slot (i : SlotId) (c : SlotClass)
  | shelf (c : ShelfClass)
  deriving DecidableEq, Repr

/-- The class of an entry. -/
def EventKey.eventClass : EventKey → EventClass
  | .slot _ c => .slot c
  | .shelf c => .shelf c

/-- The slot number of an entry, 0 for the shelf. -/
def EventKey.slotNumber : EventKey → Nat
  | .slot i _ => Sys2Proof.slotNumber i
  | .shelf _ => 0

/-- The 182 keys in slot order and then natural order (R147, R155). -/
def allKeys : List EventKey := shelfClasses.map .shelf ++ allSlots.flatMap fun i => slotClasses.map (.slot i)

/-- The level of a class: fixed for POWER_FAULT, SURPRISE_EXTRACTION and FAULT_STORM, else as set (R145). -/
def ClassLevels.level (v : ClassLevels) : EventClass → Nat
  | .slot .powerFault => 8
  | .slot .surpriseExtraction => 9
  | .slot .rejected => v.rejected
  | .slot .retireRequest => v.retireRequest
  | .slot .drainTimeout => v.drainTimeout
  | .slot .inService => v.inService
  | .slot .retired => v.retired
  | .slot .identified => v.identified
  | .slot .extracted => v.extracted
  | .slot .notice => v.notice
  | .slot .channel => v.channel
  | .shelf .faultStorm => 10
  | .shelf .restarted => v.restarted
  | .shelf .link => v.link
  | .shelf .budget => v.budget
  | .shelf .supply => v.supply
  | .shelf .batchEnd => v.batchEnd

/-- Write the level of a class; the fixed classes have none to write (R146). -/
def ClassLevels.write (c : EventClass) (n : Nat) (v : ClassLevels) : ClassLevels :=
  match c with
  | .slot .powerFault => v
  | .slot .surpriseExtraction => v
  | .slot .rejected => { v with rejected := n }
  | .slot .retireRequest => { v with retireRequest := n }
  | .slot .drainTimeout => { v with drainTimeout := n }
  | .slot .inService => { v with inService := n }
  | .slot .retired => { v with retired := n }
  | .slot .identified => { v with identified := n }
  | .slot .extracted => { v with extracted := n }
  | .slot .notice => { v with notice := n }
  | .slot .channel => { v with channel := n }
  | .shelf .faultStorm => v
  | .shelf .restarted => { v with restarted := n }
  | .shelf .link => { v with link := n }
  | .shelf .budget => { v with budget := n }
  | .shelf .supply => { v with supply := n }
  | .shelf .batchEnd => { v with batchEnd := n }

/-- The class is one of the three of fixed level (R146). -/
def EventClass.fixed : EventClass → Bool
  | .slot .powerFault => true
  | .slot .surpriseExtraction => true
  | .shelf .faultStorm => true
  | _ => false

/-- One Pending Table entry. -/
def Attention.entry (t : Attention) : EventKey → PendingEntry
  | .slot i c => t.slotEvents[i][c.index]
  | .shelf c => t.shelfEvents[c.index]

/-- Change one Pending Table entry. -/
def Attention.modEntry (k : EventKey) (f : PendingEntry → PendingEntry) (t : Attention) : Attention :=
  match k with
  | .slot i c => { t with slotEvents := t.slotEvents.set i (t.slotEvents[i].set c.index (f (t.entry k))) }
  | .shelf c => { t with shelfEvents := t.shelfEvents.set c.index (f (t.entry k)) }

/-- The level of an entry's class. -/
def Attention.levelOf (t : Attention) (k : EventKey) : Nat := t.levels.level k.eventClass

/-- An entry is deliverable to a link (R150): the link is ACTIVE, the entry is pending, its level is above the link's
current level and, while the holdoff runs, at least 7. -/
def deliverable (t : Attention) (p : Port) (k : EventKey) : Bool :=
  p.role == .active && (t.entry k).pending && decide (p.level < t.levelOf k) &&
    (p.holdoff.isNone || decide (7 ≤ t.levelOf k))

/-- The entry is pending at a level of 1 or more (R154). -/
def offered (t : Attention) (k : EventKey) : Bool := (t.entry k).pending && decide (1 ≤ t.levelOf k)

/-- The level of a link's ATTN line (R154). -/
def attnLevel (s : State) (l : Link) : Bool :=
  if s.anyActive then
    (s.port l).role == .active && allKeys.any (deliverable s.attention (s.port l))
  else allKeys.any (offered s.attention)

/-- Judge deliverability and set the ATTN lines (R150, R154). -/
def State.judge (s : State) : State :=
  { s with attention := { s.attention with attnA := attnLevel s .a, attnB := attnLevel s .b } }

/-- What a posting does to its entry (R147): a pending entry keeps pending, takes the newest detail and is marked
repeated. -/
def PendingEntry.posted (d : Detail) (e : PendingEntry) : PendingEntry :=
  { pending := true, repeated := e.pending, detail := some d }

/-- What a FAULT_STORM posted while the freeze already stood does to its entry (R144, R147). -/
def PendingEntry.postedRepeated (d : Detail) (_ : PendingEntry) : PendingEntry :=
  { pending := true, repeated := true, detail := some d }

/-- What a delivery or a withdrawal does to an entry (R148, R151): the detail stays. -/
def PendingEntry.taken (e : PendingEntry) : PendingEntry := { e with pending := false, repeated := false }

/-- Change one entry and judge again. -/
def State.modEvent (k : EventKey) (f : PendingEntry → PendingEntry) (s : State) : State :=
  { s with attention := s.attention.modEntry k f }.judge

/-- Post an event (R147). -/
def State.post (k : EventKey) (d : Detail) (s : State) : State := s.modEvent k (·.posted d)

/-- Post an event of a slot. -/
def State.postSlot (i : SlotId) (c : SlotClass) (d : Detail) (s : State) : State := s.post (.slot i c) d

/-- Post an event of the shelf. -/
def State.postShelf (c : ShelfClass) (d : Detail) (s : State) : State := s.post (.shelf c) d

/-- Withdraw an event (R148); an entry not pending is left as it is. -/
def State.withdraw (k : EventKey) (s : State) : State :=
  if (s.attention.entry k).pending then s.modEvent k PendingEntry.taken else s

/-- The better of two candidates for delivery: the first wins unless the second's level is higher. -/
def better (t : Attention) (best : Option EventKey) (k : EventKey) : Option EventKey :=
  match best with
  | none => some k
  | some b => if t.levelOf b < t.levelOf k then some k else some b

/-- The event NEXT_ATTENTION selects (R151): the highest level, then the lowest slot number, then natural order. -/
def selectEvent (t : Attention) (p : Port) : Option EventKey :=
  (allKeys.filter (deliverable t p)).foldl (better t) none

/-- A link's service state is cleared when it stops being ACTIVE, and a link that becomes ACTIVE starts with it clear
(R149). -/
def Port.clearService (p : Port) : Port := { p with level := 0, stack := [], holdoff := none }

/-- A fault-class event of another slot is pending and undelivered (R143). -/
def State.stormFor (s : State) (i : SlotId) : Bool :=
  allSlots.any fun j =>
    j != i && ((s.attention.entry (.slot j .powerFault)).pending
      || (s.attention.entry (.slot j .surpriseExtraction)).pending)

end Sys2Proof.Machine
end

