-- ==== Sys2Proof/Machine/Channel.lean ====
section
/-! DEFINITION. The Slot Channel Engine by itself: the choice of work (R83), placing and returning cues (R90 to R93) and
dropping work (R94). -/

namespace Sys2Proof.Machine

open Sys2Proof

/-- The groups cues are compared in (section 5.5). -/
inductive CueGroup where
  | hub (slot : SlotId)
  | decision
  | warning
  deriving DecidableEq, Repr

/-- The group of a cue. -/
def Cue.group : Cue → CueGroup
  | .linkUp h => .hub h
  | .linkDown h => .hub h
  | .drain h => .hub h
  | .undrain h => .hub h
  | .retireAccepted => .decision
  | .retireDenied => .decision
  | .powerOffWarning => .warning
  | .statusQuery => .warning

/-- What the engine reports to the Lane Manager when cues meet (R91, R101). -/
inductive CueReport where
  | nothing
  /-- A LINK_UP met a LINK_DOWN: link-up was not delivered. -/
  | linkUpCancelled (hub : SlotId)
  /-- A DRAIN met a LINK_UP (`announced` false) or an UNDRAIN (`announced` true): the entry is DRAINED at once. -/
  | drained (hub : SlotId) (announced : Bool)
  deriving DecidableEq, Repr

/-- The pairs that vanish when a pending cue and a new one of its group meet (R91, first four rows). -/
def vanish (old new : Cue) : Option CueReport :=
  match old, new with
  | .linkUp _, .linkDown h => some (.linkUpCancelled h)
  | .linkUp _, .drain h => some (.drained h false)
  | .drain _, .undrain _ => some .nothing
  | .undrain _, .drain h => some (.drained h true)
  | _, _ => none

/-- The queue without the cues of a group. -/
def withoutGroup (g : CueGroup) (q : List Cue) : List Cue := q.filter (·.group != g)

/-- The pending cue of a group. -/
def pendingOf (g : CueGroup) (q : List Cue) : Option Cue := q.find? (·.group == g)

/-- Place an offered cue in the queue (R91). -/
def placeCue (new : Cue) (q : List Cue) : List Cue × CueReport :=
  match pendingOf new.group q with
  | none => (q ++ [new], .nothing)
  | some old =>
    match vanish old new with
    | some report => (withoutGroup new.group q, report)
    | none => (withoutGroup new.group q ++ [new], .nothing)

/-- Return a cue whose write met its third no-answer (R93): to the head, or meeting the queued cue of its group. -/
def returnCue (back : Cue) (q : List Cue) : List Cue × CueReport :=
  match pendingOf back.group q with
  | none => (back :: q, .nothing)
  | some queued =>
    match vanish back queued with
    | some report => (withoutGroup back.group q, report)
    | none => (q, .nothing)

/-- Start a transfer with its first attempt. -/
def Channel.begin (k : TransferKind) (c : Channel) : Channel := { c with transfer := some { kind := k, attempt := 1 } }

/-- Start a notice read; the pending indication is cleared (R85). -/
def Channel.beginNotice (c : Channel) : Channel := { c.begin .noticeRead with noticePending := false }

/-- Take the cue at the head of the queue and write it (R92). -/
def Channel.beginCue (c : Channel) : Channel :=
  match c.cueQueue with
  | [] => c
  | cue :: rest => { c.begin (.cueWrite cue) with cueQueue := rest }

/-- The engine's choice of work (R83); it changes nothing while a transfer is in flight or a pause runs. -/
def Channel.choose (c : Channel) : Channel :=
  if c.transfer.isSome || c.pause.isSome then c
  else if c.identityDue then c.begin .identityRead
  else if c.noticePending && !c.cueQueue.isEmpty then
    match c.lastServed with
    | .cue => c.beginNotice
    | .notice => c.beginCue
  else if c.noticePending then c.beginNotice
  else c.beginCue

/-- The Sequencer or the Scanner asks for an identity read (R83, R84): a running pause is cancelled. -/
def Channel.askIdentity (c : Channel) : Channel := { c with identityDue := true, pause := none }.choose

/-- A notice read becomes pending (R85). -/
def Channel.raiseNotice (c : Channel) : Channel := { c with noticePending := true }.choose

/-- The transfer in flight is over and the engine chooses its next work (R83). -/
def Channel.free (c : Channel) : Channel := { c with transfer := none }.choose

/-- The transfer in flight is an identity read. -/
def Channel.readsIdentity (c : Channel) : Bool :=
  match c.transfer with
  | some t => t.kind == .identityRead
  | none => false

/-- Drop the blade conversation (R94, first list). -/
def Channel.dropConversation (c : Channel) : Channel :=
  { c with
    transfer := if c.readsIdentity then c.transfer else none
    cueQueue := []
    noticePending := false
    pause := none }

/-- Abandon an identity read, in flight or due (R94). -/
def Channel.dropIdentity (c : Channel) : Channel :=
  { c with transfer := if c.readsIdentity then none else c.transfer, identityDue := false }

/-- The blade conversation is dropped on this move (R94). -/
def dropsConversation (old new : SlotState) : Bool :=
  (old.conversing && !new.conversing) ||
    (match new with
     | .poweringDown | .faulted | .empty => true
     | _ => false)

/-- An identity read is abandoned on this entry (R94). -/
def SlotState.dropsIdentity (st : SlotState) : Bool :=
  match st with
  | .empty | .faulted => true
  | _ => false

/-- The engine when its slot moves (R85, R94). -/
def Channel.follow (old new : SlotState) (ntfyL : Level) (c : Channel) : Channel :=
  let c := if dropsConversation old new then c.dropConversation else c
  let c := if new.dropsIdentity then c.dropIdentity else c
  if !old.conversing && new.conversing && ntfyL == .low then c.raiseNotice
  else if dropsConversation old new then c.choose
  else c

end Sys2Proof.Machine
end

