-- ==== Sys2Proof/Machine/Flags.lean ====
section
/-! DEFINITION. What a change of state does to a slot's record: the phase timer (R8), the reason code (R9), retries used
(R10), the flags and the prior state (R11), the identity part (R12), the power part (R13, R63, R74) and the last notice
(R14). -/

namespace Sys2Proof.Machine

open Sys2Proof

/-- The boot timer's duration in milliseconds (R8, R51): the declared allowance if non-zero, else the boot default;
in seconds, clamped to 600 s. -/
def bootDuration (r : SlotRecord) : Nat :=
  let declared := match r.identity with
    | some b => b.bootAllowance
    | none => 0
  min Config.bootLimit (if declared = 0 then r.policy.bootDefault else declared) * 1000

/-- The phase timer started on entry to a state (R8). In SETTLING the SLI's debounce stands for it. -/
def phaseDuration (set : ShelfSettings) (new : SlotState) (r : SlotRecord) : Option Nat :=
  match new with
  | .charging => some r.policy.chargeTimeout
  | .cooling => some Config.coolDown
  | .stabilizing => some Config.stabilize
  | .powered => some (bootDuration r)
  | .draining => some set.drainDeadline
  | .isolating => some set.laneSettle
  | .poweringDown => some set.powerOffTime
  | _ => none

/-- The identity part is discarded (R12): on entry to EMPTY or SETTLING, and on entry to IDENTIFYING from
VACANT_READY. -/
def discardsIdentity (old new : SlotState) : Bool :=
  match new with
  | .empty | .settling => true
  | .identifying => old == .vacantReady
  | _ => false

/-- Entry sets retries used to 0 (R10). -/
def SlotState.clearsRetries (st : SlotState) : Bool :=
  match st with
  | .powered | .identified | .settling | .empty => true
  | _ => false

/-- Entry clears the approved flag (R11). -/
def SlotState.clearsApproved (st : SlotState) : Bool :=
  match st with
  | .empty | .settling | .rejected | .faulted | .vacantReady => true
  | _ => false

/-- Entry clears the adopted flag (R11). -/
def SlotState.clearsAdopted (st : SlotState) : Bool :=
  match st with
  | .empty | .settling | .identified | .rejected | .faulted | .vacantReady => true
  | _ => false

/-- The fault outstanding flag after a move (R11): set on entry to FAULTED or STUCK, cleared on entry to SETTLING from
EMPTY. -/
def faultOutstandingAfter (old new : SlotState) (flag : Bool) : Bool :=
  match new with
  | .faulted | .stuck => true
  | .settling => if old == .empty then false else flag
  | _ => flag

/-- The power part after a move: removed with the release of the grant or on leaving BUDGET_WAIT unreserved (R13, R63),
and holding a permit exactly in CHARGING (R45, R72, R74). -/
def powerAfter (new : SlotState) (p : Option PowerPart) : Option PowerPart :=
  if new.releasesGrant then none else p.map fun q => { q with permitHeld := new.preEnOn }

/-- The record after a move to a state, with the reason code of the entry (R1 steps 1 to 4, R8 to R14). Discarding the
identity part clears id unverified and floor applied whether or not a part was present (log entry 19). -/
def SlotRecord.enter (set : ShelfSettings) (new : SlotState) (why : Option ReasonCode) (r : SlotRecord) : SlotRecord :=
  let drops := discardsIdentity r.state new
  { r with
    state := new
    phaseTimer := phaseDuration set new r
    phasePaused := false
    reason := if new.hasReason then why else none
    retriesUsed := if new.clearsRetries then 0 else r.retriesUsed
    approved := r.approved && !new.clearsApproved
    faultOutstanding := faultOutstandingAfter r.state new r.faultOutstanding
    adopted := r.adopted && !new.clearsAdopted
    idUnverified := r.idUnverified && !drops && new != .identifying
    floorApplied := r.floorApplied && !drops
    priorState := none
    identity := if drops then none else r.identity
    power := powerAfter new r.power
    lastNotice := if new = .empty then none else r.lastNotice
    laneEvidence := false
    warningWritten := false }

end Sys2Proof.Machine
end

