-- ==== Sys2Proof/Machine/Lines.lean ====
section
/-! DEFINITION. The Slot Line Interface: the output update (R28 to R31) and the presence filter's change of mode (R22). -/

namespace Sys2Proof.Machine

open Sys2Proof

/-- The four settings the Sequencer hands over as one update (R29). -/
structure OutputUpdate where
  preEn : Bool
  mainEn : Bool
  ilim : Nat
  led : LedPattern
  deriving DecidableEq, Repr

/-- The inrush-limit code of a state (R30): in CHARGING the lower of the slot's level and the blade's class (the level
alone for a record without identity, which no rule brings to CHARGING; log entry 21), else 15 while MAIN_EN is ON. -/
def ilimCode (st : SlotState) (r : SlotRecord) : Nat :=
  if st.preEnOn then
    match r.identity with
    | some b => min r.policy.inrushLimit b.inrushClass
    | none => r.policy.inrushLimit
  else if st.mainEnOn then Config.ilimMain else 0

/-- The update for entering a state (R28, R30, R31). -/
def outputUpdate (st : SlotState) (r : SlotRecord) : OutputUpdate :=
  { preEn := st.preEnOn, mainEn := st.mainEnOn, ilim := ilimCode st r, led := st.ledPattern }

/-- The half-period a pattern starts with (R31). -/
def LedPattern.halfPeriod : LedPattern → Option Nat
  | .slowBlink => some Config.slowHalf
  | .fastBlink => some Config.fastHalf
  | .on => none
  | .off => none

/-- R29 step 1: turn OFF each enable the update turns OFF. -/
def OutputLines.turnOff (u : OutputUpdate) (o : OutputLines) : OutputLines :=
  { o with preEn := o.preEn && u.preEn, mainEn := o.mainEn && u.mainEn }

/-- R29 step 2: drive ILIM. -/
def OutputLines.driveIlim (u : OutputUpdate) (o : OutputLines) : OutputLines := { o with ilim := u.ilim }

/-- R29 step 3: turn ON each enable the update turns ON. -/
def OutputLines.turnOn (u : OutputUpdate) (o : OutputLines) : OutputLines :=
  { o with preEn := o.preEn || u.preEn, mainEn := o.mainEn || u.mainEn }

/-- R29 step 4, R31: a new pattern starts with its lit half, an unchanged one goes on in its phase. -/
def OutputLines.setLed (u : OutputUpdate) (o : OutputLines) : OutputLines :=
  if o.led = u.led then o else { o with led := u.led, lit := u.led != .off, blink := u.led.halfPeriod }

/-- One output update, applied whole in the order of R29. -/
def OutputLines.apply (u : OutputUpdate) (o : OutputLines) : OutputLines :=
  (((o.turnOff u).driveIlim u).turnOn u).setLed u

/-- The update turns an enable from OFF to ON, so FLT_L is sampled after it (R24). -/
def OutputLines.turnsOn (u : OutputUpdate) (o : OutputLines) : Bool := (!o.preEn && u.preEn) || (!o.mainEn && u.mainEn)

/-- The presence filter's change of mode when the state changes (R22). A move within a set changes nothing. -/
def Conditioning.follow (old new : SlotState) (p : Policy) (presL : Level) (c : Conditioning) : Conditioning :=
  if old.debounces && !new.debounces then
    { c with present := true, debounce := none, loss := if presL = .high then some p.presenceLoss else none }
  else if !old.debounces && new.debounces then
    { c with loss := none, debounce := if c.present == (presL == .low) then c.debounce else some p.presenceDebounce }
  else c

/-- The change of mode hands the Sequencer a presence edge: on entry to the DEBOUNCE set the line differs from the
filtered level (R22). -/
def edgeOnEntry (old new : SlotState) (presL : Level) (c : Conditioning) : Bool :=
  !old.debounces && new.debounces && c.present != (presL == .low)

/-- The filtered meaning of a handle level under a polarity (R23): true is CLOSED. -/
def handleMeansClosed (openPolarity hdl : Level) : Bool := hdl != openPolarity

end Sys2Proof.Machine
end

