-- ==== Sys2Proof/Machine/Moves.lean ====
section
/-! DEFINITION. Moving a slot to a state (R1 steps 1 to 4): the one operation by which a lifecycle state ever changes.
With it go the output update (R29), the presence filter's mode (R22), the engine's dropped or noticed work (R85, R94),
the slot's place on the PAU's lists (R69, R71, R72) and the subtraction of a released grant from S (R64 step 1). What
the PAU, the Lane Manager and the Batch Engine do when told of the change is in the files of those blocks. -/

namespace Sys2Proof.Machine

open Sys2Proof

/-- One slot after a move to a state. -/
def Slot.enter (set : ShelfSettings) (new : SlotState) (why : Option ReasonCode) (x : Slot) : Slot :=
  { x with
    record := x.record.enter set new why
    cond := x.cond.follow x.record.state new x.record.policy x.lines.presL
    out := x.out.apply (outputUpdate new x.record)
    chan := x.chan.follow x.record.state new x.lines.ntfyL }

/-- What a move hands over: FAULT asserted where FLT_L is low after an enable turned ON (R24), and a presence edge
where the filter enters DEBOUNCE on a differing line (R22). -/
def Slot.handsOver (i : SlotId) (new : SlotState) (x : Slot) : List Handover :=
  (if x.out.turnsOn (outputUpdate new x.record) && x.lines.fltL == .low then [.fault i] else [])
    ++ (if edgeOnEntry x.record.state new x.lines.presL x.cond then [.presenceEdge i] else [])

/-- The PAU's lists follow the state of a slot: it is on the wait list exactly in BUDGET_WAIT, in the permit queue
exactly in QUEUED and among the holders exactly in CHARGING (R69, R72), at its place in each list's order. -/
def PowerAccounts.follow (s : State) (i : SlotId) (new : SlotState) (p : PowerAccounts) : PowerAccounts :=
  { p with
    waitList := if new = .budgetWait then insertSlot s.waitsBefore i (without i p.waitList) else without i p.waitList
    permitQueue :=
      if new = .queued then insertSlot s.queuesBefore i (without i p.permitQueue) else without i p.permitQueue
    holders := if new = .charging then insertSlot slotBefore i (without i p.holders) else without i p.holders }

/-- R64 step 1: a released grant is subtracted from S. -/
def PowerAccounts.releaseGrant (r : SlotRecord) (new : SlotState) (p : PowerAccounts) : PowerAccounts :=
  { p with sumOfGrants := if new.releasesGrant then p.sumOfGrants - r.reservedGrant else p.sumOfGrants }

/-- The state after a slot moves. -/
def State.enter (i : SlotId) (new : SlotState) (why : Option ReasonCode) (s : State) : State :=
  (s.modSlot i (Slot.enter s.settings new why)).modPower fun p =>
    (p.releaseGrant (s.recordOf i) new).follow s i new

/-- A move inside a step, with what it hands over. -/
def Work.enter (i : SlotId) (new : SlotState) (why : Option ReasonCode) (w : Work) : Work :=
  (w.hand ((w.st.slot i).handsOver i new)).on (State.enter i new why)

end Sys2Proof.Machine
end

