-- ==== Sys2Proof/Machine/Lanes.lean ====
section
/-! DEFINITION. The Lane Manager: the Link Table and the lane enables (R32, R95, R98), joining (R99, R100), lane cues and
their reports (R90, R91, R101), draining and opening (R102 to R108), and the rebuilds (R96, R97, R173). -/

namespace Sys2Proof.Machine

open Sys2Proof

/-! ## The table and the lines -/

/-- The lane switch is closed in this link state (R95). -/
def LinkState.switched : LinkState → Bool
  | .open => false
  | .joining => true
  | .joined => true
  | .drainAsked => true
  | .drained => true

/-- A table switches the lane group of a payload slot to the hub of a name through (R32). -/
def switchedOn (table : List LinkEntry) (p : SlotId) (h : HubName) : Bool :=
  table.any fun e => e.payload == p && e.hub == h && e.linkState.switched

/-- Drive a slot's two lane enables from the table (R32, R98). -/
def OutputLines.driveLanes (table : List LinkEntry) (p : SlotId) (o : OutputLines) : OutputLines :=
  { o with laneEnA := switchedOn table p .a, laneEnB := switchedOn table p .b }

/-- Change the Link Table and drive every lane enable from it (R32, R98). -/
def State.setLinks (f : List LinkEntry → List LinkEntry) (s : State) : State :=
  { s with links := f s.links }.mapSlots fun i x => { x with out := x.out.driveLanes (f s.links) i }

/-- Change the entry of one pair. -/
def State.modPair (p h : SlotId) (f : LinkEntry → LinkEntry) (s : State) : State :=
  s.setLinks (List.map fun e => if e.isPair p h then f e else e)

/-- An entry set to OPEN: link-up NONE, no timer (R101, R106, R107). -/
def LinkEntry.opened (e : LinkEntry) : LinkEntry :=
  { e with linkState := .open, linkUp := .none, settle := none, held := false }

/-- An entry set to JOINING with its lane settle timer started (R99). -/
def LinkEntry.startJoin (n : Nat) (e : LinkEntry) : LinkEntry := { e with linkState := .joining, settle := some n }

/-! ## Lane cues -/

/-- The Lane Manager takes the engine's report on a hub cue of a payload (R91, R101, R104). -/
def State.takeReport (p : SlotId) (r : CueReport) (s : State) : State :=
  match r with
  | .nothing => s
  | .linkUpCancelled h => s.modPair p h fun e => { e with linkUp := .none }
  | .drained h announced =>
    s.modPair p h fun e =>
      if e.linkState = .drainAsked then
        { e with linkState := .drained, linkUp := if announced then e.linkUp else .none }
      else e

/-- Offer a cue to a slot's engine (R90, R91): discarded unless the slot is in a conversing state. -/
def State.offer (p : SlotId) (c : Cue) (s : State) : State :=
  if (s.stateOf p).conversing then
    let placed := placeCue c (s.slot p).chan.cueQueue
    ((s.modChan p fun ch => { ch with cueQueue := placed.1 }).takeReport p placed.2).modChan p Channel.choose
  else s

/-- Offer LINK_UP for an entry and set its link-up: OFFERED, or NONE if the cue is discarded (R100). -/
def State.announce (p h : SlotId) (s : State) : State :=
  (s.offer p (.linkUp h)).modPair p h fun e =>
    { e with linkUp := if (s.stateOf p).conversing then .offered else .none }

/-! ## Joining -/

/-- The fabric mask names the hub (R12, R99). -/
def FabricMask.names (m : FabricMask) (h : HubName) : Bool :=
  match m, h with
  | .hubA, .a => true
  | .hubB, .b => true
  | .both, _ => true
  | _, _ => false

/-- The blade's fabric mask names the hub; a record without identity names none (R172). -/
def SlotRecord.maskNames (r : SlotRecord) (h : HubName) : Bool :=
  match r.identity with
  | some b => b.fabric.names h
  | none => false

/-- An entry is OPEN and meets the join condition (R99). -/
def State.joinable (s : State) (e : LinkEntry) : Bool :=
  e.linkState == .open && s.stateOf e.payload == .inService && s.stateOf e.hubSlot == .inService
    && (s.recordOf e.payload).maskNames e.hub
    && !(s.recordOf e.payload).batchMember && !(s.recordOf e.hubSlot).batchMember

/-- Evaluate the join condition for the OPEN entries selected, in table order (R99). No entry's join bears on another's. -/
def State.joinWhere (sel : LinkEntry → Bool) (s : State) : State :=
  s.setLinks (List.map fun e => if sel e && s.joinable e then e.startJoin s.settings.laneSettle else e)

/-- Evaluate the OPEN entries touching a slot (R99). -/
def State.considerJoins (i : SlotId) (s : State) : State := s.joinWhere (·.touches i)

/-- JOINING entries touching a slot go to OPEN with no cue (R100, R103). -/
def State.openJoining (i : SlotId) (s : State) : State :=
  s.setLinks (List.map fun e => if e.touches i && e.linkState == .joining then e.opened else e)

/-! ## Draining and opening -/

/-- No entry touching the slot is in DRAIN_ASKED (R105). -/
def State.isDrained (s : State) (i : SlotId) : Bool :=
  s.links.all fun e => !(e.touches i && e.linkState == .drainAsked)

/-- How many entries touching the slot are in DRAIN_ASKED (R122). -/
def State.askedCount (s : State) (i : SlotId) : Nat :=
  (s.links.filter fun e => e.touches i && e.linkState == .drainAsked).length

/-- Report drained each of the slots that is in DRAINING with no entry in DRAIN_ASKED (R105). -/
def Work.report (ends : List SlotId) (w : Work) : Work :=
  w.hand ((ends.filter fun i => w.st.stateOf i == .draining && w.st.isDrained i).map .drained)

/-- R102 for one pair. A held entry opens with no cue (R173). -/
def State.drainPair (s : State) (ph : SlotId × SlotId) : State :=
  match s.entry ph.1 ph.2 with
  | none => s
  | some e =>
    match e.linkState with
    | .joined =>
      if e.held then s.modPair ph.1 ph.2 LinkEntry.opened
      else (s.modPair ph.1 ph.2 fun x => { x with linkState := .drainAsked }).offer ph.1 (.drain ph.2)
    | .joining => s.modPair ph.1 ph.2 LinkEntry.opened
    | .drainAsked => s
    | .drained => s
    | .open => s

/-- A slot has entered DRAINING (R102); its report is the caller's. -/
def State.drainAsk (i : SlotId) (s : State) : State := (s.pairsTouching i).foldl State.drainPair s

/-- A DRAIN_DONE notice of a payload slot (R104). -/
def Work.drainDone (p : SlotId) (arg : Byte) (w : Work) : Work :=
  match slotOfNumber arg.toNat with
  | none => w
  | some h =>
    match w.st.entry p h with
    | none => w
    | some e =>
      if e.linkState = .drainAsked then
        (w.on (State.modPair p h fun x => { x with linkState := .drained })).report [p, h]
      else w

/-- Open the entry of one pair, with LINK_DOWN to its payload where `tell` says so (R97, R106, R107). -/
def State.openPair (tell : LinkEntry → Bool) (s : State) (ph : SlotId × SlotId) : State :=
  match s.entry ph.1 ph.2 with
  | none => s
  | some e =>
    if e.linkState.switched then
      let s := s.modPair ph.1 ph.2 LinkEntry.opened
      if tell e then s.offer ph.1 (.linkDown ph.2) else s
    else s

/-- Open every entry touching a slot, and report on the other ends (R106, R107). -/
def Work.openTouching (tell : LinkEntry → Bool) (i : SlotId) (w : Work) : Work :=
  let others := (w.st.links.filter fun e => e.touches i && e.linkState.switched).map (·.otherEnd i)
  (w.on fun s => (s.pairsTouching i).foldl (State.openPair tell) s).report others

/-- The payload had been told its group was up (R97, R106 step 3). -/
def LinkEntry.announced (e : LinkEntry) : Bool := e.linkUp != .none

/-- A slot leaves by a fault or an extraction (R106). -/
def Work.openLost (i : SlotId) (w : Work) : Work := w.openTouching (fun e => e.payload != i && e.announced) i

/-- A slot enters ISOLATING (R107). -/
def Work.openIsolating (i : SlotId) (w : Work) : Work :=
  w.openTouching (fun e => e.payload != i && e.linkState == .drainAsked) i

/-- R108 for one pair. -/
def State.undrainPair (i : SlotId) (s : State) (ph : SlotId × SlotId) : State :=
  match s.entry ph.1 ph.2 with
  | none => s
  | some e =>
    if (e.linkState == .drainAsked || e.linkState == .drained) && s.stateOf (e.otherEnd i) != .draining then
      let s := s.modPair ph.1 ph.2 fun x => { x with linkState := .joined }
      if e.announced then s.offer ph.1 (.undrain ph.2) else s.announce ph.1 ph.2
    else s

/-- A member has returned from DRAINING to IN_SERVICE (R108). -/
def State.undrain (i : SlotId) (s : State) : State := (s.pairsTouching i).foldl (State.undrainPair i) s

/-! ## Rebuilds -/

/-- The name of a hub slot (00 section 2). -/
def State.hubNameOf (s : State) (h : SlotId) : Option HubName :=
  if s.hubNamed .a = some h then some .a else if s.hubNamed .b = some h then some .b else none

/-- A new entry (R96 step 3, R173). -/
def freshEntry (p : SlotId) (n : HubName) (h : SlotId) : LinkEntry :=
  { payload := p, hub := n, hubSlot := h, linkState := .open, linkUp := .none, settle := none, held := false }

/-- One entry for each pair of a PAYLOAD slot and a HUB slot, in table order, kept where `old` has it (R95, R96). -/
def State.tableFrom (s : State) (old : SlotId → SlotId → Option LinkEntry) : List LinkEntry :=
  (allSlots.filter fun p => s.roleOf p == .payload).flatMap fun p =>
    [HubName.a, HubName.b].filterMap fun n => (s.hubNamed n).map fun h => (old p h).getD (freshEntry p n h)

/-- The roles of an entry's ends are still PAYLOAD and HUB (R96). -/
def State.keepsEntry (s : State) (e : LinkEntry) : Bool := s.roleOf e.payload == .payload && s.roleOf e.hubSlot == .hub

/-- R96 step 1 for one removed entry: where the payload stays PAYLOAD, the removed hub's cues leave its queue. -/
def State.dropHubCues (s : State) (e : LinkEntry) : State :=
  if s.roleOf e.payload = .payload then
    s.modChan e.payload fun c => { c with cueQueue := withoutGroup (.hub e.hubSlot) c.cueQueue }
  else s

/-- R97 for one pair: an entry whose hub has a new name is opened and renamed. -/
def State.renamePair (s : State) (ph : SlotId × SlotId) : State :=
  match s.entry ph.1 ph.2, s.hubNameOf ph.2 with
  | some e, some n =>
    if e.hub = n then s
    else (s.openPair LinkEntry.announced ph).modPair ph.1 ph.2 fun x => { x with hub := n }
  | _, _ => s

/-- The ends of the entries a rename opens (R97). -/
def State.renamedEnds (s : State) : List SlotId :=
  (s.links.filter fun e => e.linkState.switched && s.hubNameOf e.hubSlot != some e.hub).flatMap fun e =>
    [e.payload, e.hubSlot]

/-- Rebuild the Link Table after a role change (R96, R97). -/
def Work.rebuildLinks (w : Work) : Work :=
  let gone := w.st.links.filter fun e => !w.st.keepsEntry e
  let w := w.on fun s => gone.foldl State.dropHubCues (s.setLinks (List.filter s.keepsEntry))
  let ends := w.st.renamedEnds
  let w := w.on fun s => (s.links.map fun e => (e.payload, e.hubSlot)).foldl State.renamePair s
  let w := w.on fun s => s.setLinks fun _ => s.tableFrom s.entry
  (w.on (State.joinWhere fun _ => true)).report (allSlots.filter ends.contains)

/-- The lane enable a payload drives for a hub name. -/
def OutputLines.laneEn (o : OutputLines) : HubName → Bool
  | .a => o.laneEnA
  | .b => o.laneEnB

/-- R173 for one entry: JOINED and held where the enable was held ON and both ends are RECOVERING. -/
def State.restartEntry (s : State) (e : LinkEntry) : LinkEntry :=
  if (s.slot e.payload).out.laneEn e.hub && s.stateOf e.payload == .recovering && s.stateOf e.hubSlot == .recovering then
    { e with linkState := .joined, held := true }
  else e

/-- Rebuild the Link Table after a restart from the held lane enables (R173). -/
def State.restartLinks (s : State) : State :=
  s.setLinks fun _ => (s.tableFrom fun _ _ => none).map s.restartEntry

/-- R173 for one pair: a held entry both of whose ends have left RECOVERING is announced. -/
def State.decidePair (s : State) (ph : SlotId × SlotId) : State :=
  match s.entry ph.1 ph.2 with
  | none => s
  | some e =>
    if e.held && (s.stateOf ph.1).keepsLanes && (s.stateOf ph.2).keepsLanes then
      (s.modPair ph.1 ph.2 fun x => { x with held := false }).announce ph.1 ph.2
    else s

/-- A slot has left RECOVERING: decide its held entries (R173). -/
def State.decideHeld (i : SlotId) (s : State) : State := (s.pairsTouching i).foldl State.decidePair s

/-- Lane evidence of a slot (R170): from the kept roles and the held lane enables. -/
def State.laneEvidenceOf (s : State) (i : SlotId) : Bool :=
  match s.roleOf i with
  | .payload => [HubName.a, HubName.b].any fun n => (s.slot i).out.laneEn n && (s.hubNamed n).isSome
  | .hub =>
    match s.hubNameOf i with
    | some n => allSlots.any fun p => s.roleOf p == .payload && (s.slot p).out.laneEn n
    | none => false
  | .unused => false

end Sys2Proof.Machine
end

