-- ==== Sys2Proof/Machine/Batch.lean ====
section
/-! DEFINITION. The Retirement Batch Engine's own state: membership and outcomes (R103, R117, R118, R126), the batch end
(R127) and autonomous retirement (R132, R164). -/

namespace Sys2Proof.Machine

open Sys2Proof

/-- The member of the batch a slot is, with or without an outcome. -/
def State.memberOf (s : State) (i : SlotId) : Option Member := s.batch.members.find? (·.slot == i)

/-- Change the member a slot is. -/
def State.modMember (i : SlotId) (f : Member → Member) (s : State) : State :=
  s.modBatch fun b => { b with members := b.members.map fun m => if m.slot == i then f m else m }

/-- Set a slot's batch member flag; its JOINING entries open (R103). -/
def State.setMemberFlag (i : SlotId) (s : State) : State :=
  (s.modRecord i fun r => { r with batchMember := true }).openJoining i

/-- Clear a slot's batch member flag; in IN_SERVICE its OPEN entries are evaluated (R103). -/
def State.clearMemberFlag (i : SlotId) (s : State) : State :=
  let s := s.modRecord i fun r => { r with batchMember := false }
  if s.stateOf i = .inService then s.considerJoins i else s

/-- An accepted addition (R118 steps 1 to 4, R132). -/
def State.batchAdd (i : SlotId) (force : Bool) (s : State) : State :=
  let fresh := s.batch.state == .idle || s.batch.state == .done
  let kept := if fresh then [] else s.batch.members
  (s.modBatch fun _ =>
    { state := .gathering
      window := some s.settings.gatherWindow
      members := kept ++ [{ slot := i, force := force, started := false, returnState := none, outcome := none }] }
    ).setMemberFlag i

/-- The outcome makes a batch end in DONE_FAULT (R127). -/
def MemberOutcome.fails : MemberOutcome → Bool
  | .stuck => true
  | .faulted => true
  | .drainTimeout => true
  | .retired => false
  | .extracted => false
  | .abandoned => false

/-- The batch can end in this state (R127). -/
def BatchState.canEnd : BatchState → Bool
  | .running => true
  | .holding => true
  | .abandoning => true
  | _ => false

/-- The batch-end test (R127); a batch that becomes DONE has every slot considered (R132). -/
def Work.batchEnd (w : Work) : Work :=
  let b := w.st.batch
  if b.state.canEnd && b.members.all (·.outcome.isSome) then
    let fault := b.members.any fun m => m.outcome.any MemberOutcome.fails
    let w := w.on fun s =>
      (s.modBatch fun b => { b with state := if fault then .doneFault else .done }).postShelf .batchEnd (.batchEnd fault)
    if fault then w else w.hand [.considerAll]
  else w

/-- The slot is a member without an outcome. -/
def State.openMember (s : State) (i : SlotId) : Bool :=
  match s.memberOf i with
  | some m => m.outcome.isNone
  | none => false

/-- Give a member without an outcome its outcome; its flag is cleared (R117, R126). -/
def State.giveOutcome (i : SlotId) (o : MemberOutcome) (s : State) : State :=
  if s.openMember i then (s.modMember i fun m => { m with outcome := some o }).clearMemberFlag i else s

/-- The outcome a state entered gives (R126). -/
def SlotState.outcome : SlotState → Option MemberOutcome
  | .vacantReady => some .retired
  | .empty => some .extracted
  | .faulted => some .faulted
  | .stuck => some .stuck
  | _ => none

/-- The Batch Engine is told of a member's state change (R126). -/
def Work.memberMoved (i : SlotId) (w : Work) : Work :=
  match (w.st.stateOf i).outcome with
  | some o => if w.st.openMember i then (w.on (State.giveOutcome i o)).batchEnd else w
  | none => w

/-! ## Autonomous retirement -/

/-- The conditions of R132 for a slot. -/
def State.autoRetires (s : State) (i : SlotId) : Bool :=
  !s.anyActive && s.roleOf i == .payload && s.stateOf i == .retirePending && (s.recordOf i).policy.autoRetire
    && !(s.recordOf i).batchMember
    && (s.batch.state == .idle || s.batch.state == .done
        || (s.batch.state == .gathering && (s.memberOf i).isNone))

/-- Enter a slot in the open Episode Record's set (R164). -/
def Episode.enter (i : SlotId) (e : Episode) : Episode :=
  if e.state = .open ∧ !e.retired.contains i then { e with retired := insertSlot slotBefore i e.retired } else e

/-- Consider one slot for autonomous retirement (R132). -/
def State.considerSlot (s : State) (i : SlotId) : State :=
  if s.autoRetires i then { s.batchAdd i false with episode := s.episode.enter i } else s

/-- Consider every slot, in slot number order (R132). -/
def State.considerAll (s : State) : State := allSlots.foldl State.considerSlot s

end Sys2Proof.Machine
end

