-- ==== Sys2Proof/Machine/Operands.lean ====
section
/-! DEFINITION. The operand forms of chapter 12: numbers most significant byte first, the identity block (R175), slot
fields, field-value triples and class-level pairs (R176), and the codes of cues and notices. -/

namespace Sys2Proof.Machine

open Sys2Proof

/-! ## Numbers -/

/-- One byte. -/
def byte (n : Nat) : Byte := BitVec.ofNat 8 n

/-- Two bytes, most significant first. -/
def two (n : Nat) : List Byte := [byte (n / 256), byte n]

/-- Four bytes, most significant first. -/
def four (n : Nat) : List Byte := two (n / 65536) ++ two n

/-- The number two bytes give. -/
def number (hi lo : Byte) : Nat := hi.toNat * 256 + lo.toNat

/-- A bit as a byte. -/
def flag (b : Bool) : Byte := if b then 1 else 0

/-! ## The identity block (section 12.1) -/

/-- The byte code of a blade kind. -/
def BladeKind.code : BladeKind → Byte
  | .payload => 1
  | .hub => 2
  | .either => 3

/-- The blade kind of a byte, if it is one. -/
def BladeKind.ofCode (b : Byte) : Option BladeKind :=
  match b.toNat with
  | 1 => some .payload
  | 2 => some .hub
  | 3 => some .either
  | _ => none

/-- The byte code of a fabric mask. -/
def FabricMask.code : FabricMask → Byte
  | .hubA => 1
  | .hubB => 2
  | .both => 3

/-- The fabric mask of a byte, if it is one. -/
def FabricMask.ofCode (b : Byte) : Option FabricMask :=
  match b.toNat with
  | 1 => some .hubA
  | 2 => some .hubB
  | 3 => some .both
  | _ => none

/-- A byte of the printable character set (R175). -/
def printable (b : Byte) : Bool := decide (0x20 ≤ b.toNat) && decide (b.toNat ≤ 0x7E)

/-- The sum of bytes modulo 256. -/
def byteSum (l : List Byte) : Byte := l.foldl (· + ·) 0

/-- The bytes of a block add to 0 modulo 256 (R84 step 1, R175). -/
def blockChecks (v : Vector Byte 32) : Bool := byteSum v.toList == 0

/-- The fields of a block whose check has passed, if each holds a value from its set (R84 step 2, R175). -/
def blockFields (v : Vector Byte 32) : Option Identity :=
  match BladeKind.ofCode v[0], FabricMask.ofCode v[3] with
  | some kind, some fabric =>
    let serial : Vector Byte 16 := Vector.ofFn fun i => v[6 + i.val]
    let model : Vector Byte 6 := Vector.ofFn fun i => v[22 + i.val]
    if decide (v[4].toNat ≤ 15) && serial.toList.all printable && model.toList.all printable
        && v[28] == 0 && v[29] == 0 && v[30] == 0 then
      some
        { kind := kind, demand := number v[1] v[2], fabric := fabric, inrushClass := v[4].toNat,
          bootAllowance := v[5].toNat, serial := serial, model := model }
    else none
  | _, _ => none

/-- The block's bytes but for its check byte. -/
def Identity.body (b : Identity) : List Byte :=
  [b.kind.code] ++ two b.demand ++ [b.fabric.code, byte b.inrushClass, byte b.bootAllowance] ++ b.serial.toList
    ++ b.model.toList ++ [0, 0, 0]

/-- The 32 bytes of the block as read: the check byte makes the sum 0 (section 12.1). -/
def Identity.block (b : Identity) : List Byte := b.body ++ [0 - byteSum b.body]

/-- What the test of a completed identity read gives (R84). -/
inductive ReadOutcome where
  | success (b : Identity)
  | formatError
  | unreadable
  deriving DecidableEq, Repr

/-! ## Cues (section 12.1) -/

/-- Code and argument of a cue. -/
def Cue.bytes : Cue → List Byte
  | .linkUp h => [1, byte (slotNumber h)]
  | .linkDown h => [2, byte (slotNumber h)]
  | .drain h => [3, byte (slotNumber h)]
  | .undrain h => [4, byte (slotNumber h)]
  | .retireAccepted => [5, 0]
  | .retireDenied => [6, 0]
  | .powerOffWarning => [7, 0]
  | .statusQuery => [8, 0]

/-! ## Parameters (R176) -/

/-- The slot a frame names, 1 to 16. -/
def frameSlot (f : Frame) : Option SlotId := slotOfNumber f.slot.toNat

/-- The frame carries slot 0. -/
def forShelf (f : Frame) : Bool := f.slot == 0

/-- Triples of a field code and a two-byte value; none where the length is no multiple of 3. -/
def triples : List Byte → Option (List (Nat × Nat))
  | [] => some []
  | c :: hi :: lo :: rest => (triples rest).map fun t => (c.toNat, number hi lo) :: t
  | _ => none

/-- Pairs of a class code and a level; none where the length is odd. -/
def pairs : List Byte → Option (List (Nat × Nat))
  | [] => some []
  | c :: n :: rest => (pairs rest).map fun t => (c.toNat, n.toNat) :: t
  | _ => none

/-- No code appears twice. -/
def distinct (l : List (Nat × Nat)) : Bool := decide (l.map (·.1)).Nodup

/-- A value brought to the nearer end of its range (00 section 6). -/
def clamp (lo hi n : Nat) : Nat := max lo (min hi n)

/-! ### SET_POLICY -/

/-- The twelve policy fields, in the order of R2. -/
inductive PolicyField where
  | role
  | admitMode
  | priority
  | slotCap
  | inrushLimit
  | chargeTimeout
  | chargeRetries
  | bootDefault
  | autoRetire
  | openPolarity
  | presenceDebounce
  | presenceLoss
  deriving DecidableEq, Repr

/-- The policy field of a code, 1 to 12 (R176). -/
def PolicyField.ofCode : Nat → Option PolicyField
  | 1 => some .role
  | 2 => some .admitMode
  | 3 => some .priority
  | 4 => some .slotCap
  | 5 => some .inrushLimit
  | 6 => some .chargeTimeout
  | 7 => some .chargeRetries
  | 8 => some .bootDefault
  | 9 => some .autoRetire
  | 10 => some .openPolarity
  | 11 => some .presenceDebounce
  | 12 => some .presenceLoss
  | _ => none

/-- The largest value of an enumerated field; none for a numeric field (R176). -/
def PolicyField.enumMax : PolicyField → Option Nat
  | .role => some 2
  | .admitMode => some 1
  | .autoRetire => some 1
  | .openPolarity => some 1
  | _ => none

/-- The range of a numeric field (R2); an enumerated field's codes. -/
def PolicyField.range : PolicyField → Nat × Nat
  | .role => (0, 2)
  | .admitMode => (0, 1)
  | .priority => (0, 7)
  | .slotCap => (1, 1000)
  | .inrushLimit => (0, 15)
  | .chargeTimeout => (10, 2000)
  | .chargeRetries => (0, 3)
  | .bootDefault => (1, 600)
  | .autoRetire => (0, 1)
  | .openPolarity => (0, 1)
  | .presenceDebounce => (10, 1000)
  | .presenceLoss => (1, 15)

/-- The role of a code (R176). -/
def Role.ofCode : Nat → Role
  | 1 => .payload
  | 2 => .hub
  | _ => .unused

/-- The code of a role. -/
def Role.code : Role → Nat
  | .unused => 0
  | .payload => 1
  | .hub => 2

/-- Write one policy field from its code's value. -/
def Policy.write (f : PolicyField) (n : Nat) (p : Policy) : Policy :=
  match f with
  | .role => { p with role := Role.ofCode n }
  | .admitMode => { p with admitMode := if n = 0 then .auto else .held }
  | .priority => { p with priority := n }
  | .slotCap => { p with slotCap := n }
  | .inrushLimit => { p with inrushLimit := n }
  | .chargeTimeout => { p with chargeTimeout := n }
  | .chargeRetries => { p with chargeRetries := n }
  | .bootDefault => { p with bootDefault := n }
  | .autoRetire => { p with autoRetire := n != 0 }
  | .openPolarity => { p with openPolarity := if n = 0 then .low else .high }
  | .presenceDebounce => { p with presenceDebounce := n }
  | .presenceLoss => { p with presenceLoss := n }

/-- The stored value of a policy field, as its code. -/
def Policy.read (f : PolicyField) (p : Policy) : Nat :=
  match f with
  | .role => p.role.code
  | .admitMode => if p.admitMode = .auto then 0 else 1
  | .priority => p.priority
  | .slotCap => p.slotCap
  | .inrushLimit => p.inrushLimit
  | .chargeTimeout => p.chargeTimeout
  | .chargeRetries => p.chargeRetries
  | .bootDefault => p.bootDefault
  | .autoRetire => if p.autoRetire then 1 else 0
  | .openPolarity => if p.openPolarity = .low then 0 else 1
  | .presenceDebounce => p.presenceDebounce
  | .presenceLoss => p.presenceLoss

/-- A field and the value a frame gives it; none where the code is unknown or an enumerated value is not one of the
field's (R3 check 2). -/
def policyPair (cv : Nat × Nat) : Option (PolicyField × Nat) :=
  match PolicyField.ofCode cv.1 with
  | none => none
  | some f =>
    match f.enumMax with
    | some m => if cv.2 ≤ m then some (f, cv.2) else none
    | none => some (f, cv.2)

/-- The fields and values of a SET_POLICY frame, none where check 2 of R3 fails. -/
def policyFields (params : List Byte) : Option (List (PolicyField × Nat)) :=
  match triples params with
  | none => none
  | some l => if l.isEmpty || !distinct l then none else l.mapM policyPair

/-- The value is outside its field's range. -/
def PolicyField.clamps (fv : PolicyField × Nat) : Bool := clamp fv.1.range.1 fv.1.range.2 fv.2 != fv.2

/-- Write the clamped values of a frame. -/
def Policy.writeAll (l : List (PolicyField × Nat)) (p : Policy) : Policy :=
  l.foldl (fun p fv => p.write fv.1 (clamp fv.1.range.1 fv.1.range.2 fv.2)) p

/-! ### SET_SHELF -/

/-- The nine shelf settings, in the order of R59. -/
inductive ShelfField where
  | budget
  | margin
  | floor
  | permitLimit
  | laneSettle
  | drainDeadline
  | powerOffTime
  | gatherWindow
  | supervisionTime
  deriving DecidableEq, Repr

/-- The shelf settings in order. -/
def shelfFieldList : List ShelfField :=
  [.budget, .margin, .floor, .permitLimit, .laneSettle, .drainDeadline, .powerOffTime, .gatherWindow, .supervisionTime]

/-- The shelf setting of a code, 1 to 9 (R176). -/
def ShelfField.ofCode : Nat → Option ShelfField
  | 1 => some .budget
  | 2 => some .margin
  | 3 => some .floor
  | 4 => some .permitLimit
  | 5 => some .laneSettle
  | 6 => some .drainDeadline
  | 7 => some .powerOffTime
  | 8 => some .gatherWindow
  | 9 => some .supervisionTime
  | _ => none

/-- The range of a setting (R59). -/
def ShelfField.range : ShelfField → Nat × Nat
  | .budget => (0, 8000)
  | .margin => (0, 50)
  | .floor => (1, 100)
  | .permitLimit => (1, 4)
  | .laneSettle => (1, 100)
  | .drainDeadline => (100, 60000)
  | .powerOffTime => (50, 5000)
  | .gatherWindow => (10, 1000)
  | .supervisionTime => (100, 10000)

/-- Write one setting. -/
def ShelfSettings.write (f : ShelfField) (n : Nat) (v : ShelfSettings) : ShelfSettings :=
  match f with
  | .budget => { v with budget := n }
  | .margin => { v with margin := n }
  | .floor => { v with floor := n }
  | .permitLimit => { v with permitLimit := n }
  | .laneSettle => { v with laneSettle := n }
  | .drainDeadline => { v with drainDeadline := n }
  | .powerOffTime => { v with powerOffTime := n }
  | .gatherWindow => { v with gatherWindow := n }
  | .supervisionTime => { v with supervisionTime := n }

/-- The stored value of a setting. -/
def ShelfSettings.read (f : ShelfField) (v : ShelfSettings) : Nat :=
  match f with
  | .budget => v.budget
  | .margin => v.margin
  | .floor => v.floor
  | .permitLimit => v.permitLimit
  | .laneSettle => v.laneSettle
  | .drainDeadline => v.drainDeadline
  | .powerOffTime => v.powerOffTime
  | .gatherWindow => v.gatherWindow
  | .supervisionTime => v.supervisionTime

/-- The settings and values of a SET_SHELF frame, none where check 2 of R60 fails. -/
def shelfFields (params : List Byte) : Option (List (ShelfField × Nat)) :=
  match triples params with
  | none => none
  | some l =>
    if l.isEmpty || !distinct l then none else l.mapM fun cv => (ShelfField.ofCode cv.1).map fun f => (f, cv.2)

/-- The value is outside its setting's range. -/
def ShelfField.clamps (fv : ShelfField × Nat) : Bool := clamp fv.1.range.1 fv.1.range.2 fv.2 != fv.2

/-- Write the clamped values of a frame. -/
def ShelfSettings.writeAll (l : List (ShelfField × Nat)) (v : ShelfSettings) : ShelfSettings :=
  l.foldl (fun v fv => v.write fv.1 (clamp fv.1.range.1 fv.1.range.2 fv.2)) v

/-! ### SET_LEVEL -/

/-- The class of a code, 1 to 17 in natural order (section 12.3). -/
def EventClass.ofCode (n : Nat) : Option EventClass := if n = 0 then none else eventClasses[n - 1]?

/-- The classes and levels of a SET_LEVEL frame, none where check 2 or 3 of R146 fails. -/
def levelPairs (params : List Byte) : Option (List (EventClass × Nat)) :=
  match pairs params with
  | none => none
  | some l =>
    if l.isEmpty || !distinct l then none
    else l.mapM fun cn =>
      match EventClass.ofCode cn.1 with
      | some c => if c.fixed then none else some (c, cn.2)
      | none => none

/-- Write the clamped levels of a frame. -/
def ClassLevels.writeAll (l : List (EventClass × Nat)) (v : ClassLevels) : ClassLevels :=
  l.foldl (fun v cn => v.write cn.1 (clamp 0 7 cn.2)) v

/-! ### RETIRE_ADD and HOLDOFF -/

/-- The force value of a RETIRE_ADD frame (R118 check 2). -/
def forceOf (params : List Byte) : Option Bool :=
  match params with
  | [] => none
  | b :: _ => match b.toNat with
    | 0 => some false
    | 1 => some true
    | _ => none

/-- The n of a HOLDOFF frame (R153). -/
def holdoffOf (params : List Byte) : Option Nat :=
  match params with
  | hi :: lo :: _ => some (number hi lo)
  | _ => none

end Sys2Proof.Machine
end

