-- ==== Sys2Proof/Machine/Power.lean ====
section
/-! DEFINITION. The Power Admission Unit: grant arithmetic (R61), reservation, release and deficit (R63 to R66), the
Budget Wait List (R69), the permit arbiter (R72 to R75), back-off, freeze and fault storms (R76 to R78, R143, R144), and
the grant request (R67). -/

namespace Sys2Proof.Machine

open Sys2Proof

/-! ## Grants -/

/-- The grant for a demand under a margin and a floor, and whether the floor applies (R61). -/
def grantFor (demand margin floor : Nat) : Nat × Bool :=
  if demand = 0 then (floor, true)
  else
    let g := (demand * (100 + margin) + 999) / 1000
    if g < floor then (floor, true) else (g, false)

/-- The grant the PAU computes for a slot now; a record without identity counts as demand 0 (log entry 21). -/
def State.grantNow (s : State) (i : SlotId) : Nat × Bool :=
  let demand := match (s.recordOf i).identity with
    | some b => b.demand
    | none => 0
  grantFor demand s.settings.margin s.settings.floor

/-- The counter after a stamp is given: it stays at its largest value (R68). -/
def nextStamp (c : Nat) : Nat := if c < Config.stampMax then c + 1 else c

/-- Give a slot's power part the counter's present value as its join stamp (R68). -/
def State.giveStamp (i : SlotId) (s : State) : State :=
  (s.modRecord i fun r =>
    { r with power := r.power.map fun p => { p with joinStamp := some s.power.stampCounter } }).modPower fun p =>
      { p with stampCounter := nextStamp p.stampCounter }

/-- Reserve a slot's grant: reserved YES and the grant added to S (R63). -/
def State.reserve (i : SlotId) (s : State) : State :=
  (s.modRecord i fun r => { r with power := r.power.map fun p => { p with reserved := true } }).modPower fun p =>
    { p with sumOfGrants := p.sumOfGrants + s.grantOf i }

/-! ## Deficit -/

/-- Clear the deficit flag if S is at or below B, posting BUDGET (CLEARED) (R64 step 2, R65). -/
def State.clearDeficit (s : State) : State :=
  if s.power.deficit && decide (s.power.sumOfGrants ≤ s.settings.budget) then
    (s.modPower fun p => { p with deficit := false }).postShelf .budget (.budget true)
  else s

/-- Set the deficit flag if S is above B, posting BUDGET (DEFICIT) if it was clear (R65). -/
def State.setDeficit (s : State) : State :=
  if !s.power.deficit && decide (s.settings.budget < s.power.sumOfGrants) then
    (s.modPower fun p => { p with deficit := true }).postShelf .budget (.budget false)
  else s

/-! ## The Budget Wait List -/

/-- The head's grant may be reserved (R69). -/
def State.headFits (s : State) (i : SlotId) : Bool :=
  !s.power.deficit && decide (s.power.sumOfGrants + s.grantOf i ≤ s.settings.budget)

/-- Test the head and, while heads pass, each new head (R69); the flag says whether a slot moved to QUEUED. A head that
is no longer in BUDGET_WAIT is taken off the list and nothing is reserved for it (R15, R69). -/
def passHeads : List SlotId → Work → Work × Bool
  | [], w => (w, false)
  | i :: rest, w =>
    if w.st.headFits i then
      if w.st.stateOf i = .budgetWait then
        let r := passHeads rest ((w.on (State.reserve i)).enter i .queued none)
        (r.1, true)
      else passHeads rest (w.on (State.modPower fun p => { p with waitList := without i p.waitList }))
    else (w, false)

/-! ## The permit arbiter -/

/-- The slot the arbiter would give a permit to now (R72). -/
def State.nextPermit (s : State) : Option SlotId :=
  if decide (s.power.holders.length < s.settings.permitLimit) && !s.shelf.supplyAsserted && !s.power.freeze then
    s.power.permitQueue.find? fun i => (s.recordOf i).policy.priority != 0
  else none

/-- Give a slot a permit: it moves to CHARGING (R45, R72). A slot that has left QUEUED is only taken out of the queue
(R15, R72). -/
def Work.grantPermit (i : SlotId) (w : Work) : Work :=
  if w.st.stateOf i = .queued then w.enter i .charging none
  else w.on (State.modPower fun p => { p with permitQueue := without i p.permitQueue })

/-- The arbiter's repetition, at most as many times as the queue has slots: each turn takes one out of it. -/
def arbitrate : Nat → Work → Work
  | 0, w => w
  | n + 1, w =>
    match w.st.nextPermit with
    | none => w
    | some i => arbitrate n (w.grantPermit i)

/-- The permit arbiter acts (R72). -/
def Work.arbiter (w : Work) : Work := arbitrate w.st.power.permitQueue.length w

/-- Test the head of the wait list; the arbiter acts once the testing has ended, if a slot moved or a permit was
released (R64 steps 3 and 4, R69, R73). -/
def Work.testHead (permitReleased : Bool) (w : Work) : Work :=
  let r := passHeads w.st.power.waitList w
  if r.2 || permitReleased then r.1.arbiter else r.1

/-! ## What the PAU does when told of a move -/

/-- What the PAU needs to know of a move it is told of (R70). -/
structure MoveFacts where
  /-- A reserved grant is released. -/
  released : Bool
  /-- The head of the wait list leaves it without passing. -/
  leftHead : Bool
  /-- A permit is released other than by a back-off. -/
  permitReleased : Bool
  deriving DecidableEq, Repr

/-- The facts of a move about to be made. -/
def State.moveFacts (s : State) (i : SlotId) (new : SlotState) : MoveFacts :=
  { released := new.releasesGrant && (match (s.recordOf i).power with | some p => p.reserved | none => false)
    leftHead := s.stateOf i == .budgetWait && new != .queued && s.power.waitList.head? == some i
    permitReleased := s.stateOf i == .charging && new != .queued }

/-- The PAU's reaction to a move already made (R64 steps 2 to 4, R70, R74). -/
def Work.react (f : MoveFacts) (w : Work) : Work :=
  let w := if f.released then w.on State.clearDeficit else w
  if f.released || f.leftHead then w.testHead f.permitReleased
  else if f.permitReleased then w.arbiter
  else w

/-- Move a slot and tell the PAU (R1 steps 1 to 5 as far as the PAU). -/
def Work.move (i : SlotId) (new : SlotState) (why : Option ReasonCode) (w : Work) : Work :=
  (w.enter i new why).react (w.st.moveFacts i new)

/-! ## Back-off, freeze and storms -/

/-- Back a permit holder off to QUEUED; the request is taken in CHARGING (R77). -/
def Work.backOff (i : SlotId) (w : Work) : Work := if w.st.stateOf i = .charging then w.enter i .queued none else w

/-- Back off every permit holder, in slot order. -/
def Work.backOffAll (w : Work) : Work := w.st.power.holders.foldl (fun v i => v.backOff i) w

/-- Set the freeze flag (R78). -/
def Work.setFreeze (w : Work) : Work :=
  if w.st.power.freeze then w else (w.on (State.modPower fun p => { p with freeze := true })).backOffAll

/-- A fault storm whose posting is slot i's (R143, R144). -/
def Work.storm (i : SlotId) (w : Work) : Work :=
  if w.st.power.freeze then w.on (State.modEvent (.shelf .faultStorm) (·.postedRepeated (.storm i)))
  else w.setFreeze.on (State.postShelf .faultStorm (.storm i))

/-- Post a fault-class event of a slot and test for a storm against the table as it stood before the posting (R143,
R147). -/
def Work.postFault (i : SlotId) (c : SlotClass) (d : Detail) (w : Work) : Work :=
  let posted := w.on (State.postSlot i c d)
  if w.st.stormFor i then posted.storm i else posted

/-! ## The grant request -/

/-- R67 steps 1 to 3: compute the grant, hold it at most at 1000 W (R62), create the power part and give the stamp. -/
def State.openRequest (i : SlotId) (s : State) : State :=
  let g := s.grantNow i
  (s.modRecord i fun r =>
    { r with
      floorApplied := g.2
      power := some
        { grant := min g.1 Config.grantMax, reserved := false, joinStamp := none, permitHeld := false } }).giveStamp i

/-- The test of R67 step 4. -/
def State.requestFits (s : State) (i : SlotId) : Bool := s.headFits i && s.power.waitList.isEmpty

/-- The grant request of a slot in IDENTIFIED (R67). -/
def Work.requestGrant (i : SlotId) (w : Work) : Work :=
  let w := w.on (State.openRequest i)
  if w.st.requestFits i then ((w.on (State.reserve i)).enter i .queued none).arbiter
  else w.enter i .budgetWait none

end Sys2Proof.Machine
end

