-- ==== Sys2Proof/Machine/Sequencer.lean ====
section
/-! DEFINITION. The Slot Sequencer: the flows by which slots change state (chapters 3, 7, 8, 11), and the draining of
what a step hands over. -/

namespace Sys2Proof.Machine

open Sys2Proof

/-! ## Admission -/

/-- The admission condition (R42). -/
def State.admissible (s : State) (i : SlotId) : Bool :=
  s.stateOf i == .identified && (s.recordOf i).handleClosed
    && ((s.recordOf i).policy.admitMode == .auto || (s.recordOf i).approved)

/-- Test the admission condition; when it is met the PAU is sent the grant request (R42). -/
def Work.testAdmission (i : SlotId) (w : Work) : Work := if w.st.admissible i then w.requestGrant i else w

/-- A slot goes to IDENTIFIED (R41). -/
def Work.toIdentified (i : SlotId) (w : Work) : Work :=
  let left := w.st.stateOf i
  ((w.move i .identified none).on (State.postSlot i .identified (.leftState left))).testAdmission i

/-- A slot goes to IDENTIFYING (R37). -/
def Work.toIdentifying (i : SlotId) (w : Work) : Work :=
  (w.move i .identifying none).on (State.modChan i Channel.askIdentity)

/-- A slot goes to REJECTED (R40). -/
def Work.toRejected (i : SlotId) (why : ReasonCode) (w : Work) : Work :=
  (w.move i .rejected (some why)).on (State.postSlot i .rejected (.reason why))

/-- The blade kind suits the slot's role (R39 check 1). -/
def kindSuits (role : Role) (kind : BladeKind) : Bool :=
  match role, kind with
  | .payload, .payload => true
  | .payload, .either => true
  | .hub, .hub => true
  | .hub, .either => true
  | _, _ => false

/-- The fabric check (R39 check 2). -/
def State.fabricSuits (s : State) (i : SlotId) (m : FabricMask) : Bool :=
  s.roleOf i != .payload || [HubName.a, HubName.b].any fun n => m.names n && (s.hubNamed n).isSome

/-- The PAU computes a slot's grant and sets or clears its floor applied flag (R61). -/
def State.computeGrant (i : SlotId) (s : State) : State :=
  s.modRecord i fun r => { r with floorApplied := (s.grantNow i).2 }

/-- Vetting (R39); the identity part is in the record. -/
def Work.vet (i : SlotId) (b : Identity) (w : Work) : Work :=
  if !kindSuits (w.st.roleOf i) b.kind then w.toRejected i .roleMismatch
  else if !w.st.fabricSuits i b.fabric then w.toRejected i .noFabric
  else
    let grant := (w.st.grantNow i).1
    let w := w.on (State.computeGrant i)
    if (w.st.recordOf i).policy.slotCap < grant then w.toRejected i .overCap else w.toIdentified i

/-- A slot enters IN_SERVICE and the Lane Manager is told (R52, R99). -/
def Work.toInService (i : SlotId) (w : Work) : Work :=
  (w.move i .inService none).on (State.considerJoins i)

/-! ## Retirement requests -/

/-- A retirement request (R112). -/
def Work.retireRequest (i : SlotId) (cause : RequestCause) (w : Work) : Work :=
  let left : Option ReturnState :=
    match w.st.stateOf i with
    | .inService => some .inService
    | .powered => some .powered
    | _ => none
  match left with
  | none => w
  | some p =>
    (w.move i .retirePending none).on fun s =>
      (((s.modRecord i fun r => { r with priorState := some p }).openJoining i).postSlot i .retireRequest
        (.request cause)).considerSlot i

/-- Return a slot from RETIRE_PENDING to its prior state (R116). A prior state is always present there (R11); where it
were absent the slot would go to IN_SERVICE (log entry 21). -/
def Work.returnToPrior (i : SlotId) (w : Work) : Work :=
  match (w.st.recordOf i).priorState with
  | some .powered => w.move i .powered none
  | some .inService => w.toInService i
  | none => w.toInService i

/-- Offer RETIRE_DENIED and return the slot to its prior state (R114 steps 2 and 3, R115). -/
def Work.denyRequest (i : SlotId) (w : Work) : Work := (w.on (State.offer i .retireDenied)).returnToPrior i

/-! ## Leaving power -/

/-- A slot goes to VACANT_READY with RETIRED posted: BATCH for a member, else ABORTED (R55, R57, R125). -/
def Work.toVacantReady (i : SlotId) (w : Work) : Work :=
  let member := (w.st.recordOf i).batchMember
  ((w.move i .vacantReady none).on (State.postSlot i .retired (.retired member))).memberMoved i

/-- A slot goes to STUCK (R57, R141). -/
def Work.toStuck (i : SlotId) (w : Work) : Work :=
  ((w.move i .stuck (some .stuck)).memberMoved i).postFault i .powerFault (.fault .stuck)

/-- The power-off timer expires (R57, R125). -/
def Work.powerOffEnds (i : SlotId) (w : Work) : Work :=
  if (w.st.slot i).lines.pgood = .low then w.toVacantReady i else w.toStuck i

/-! ## Faults -/

/-- An inrush fault (R47, R48): the slot has left its state and its permit when POWER_FAULT is posted, and the PAU acts
on the change of state after the posting (log entry 17). -/
def Work.inrushFault (i : SlotId) (w : Work) : Work :=
  let r := w.st.recordOf i
  let new : SlotState := if r.retriesUsed < r.policy.chargeRetries then .cooling else .faulted
  let facts := w.st.moveFacts i new
  let w :=
    if new = .cooling then
      (w.on (State.modRecord i fun r => { r with retriesUsed := r.retriesUsed + 1 })).enter i .cooling none
    else w.enter i .faulted (some .inrushFault)
  ((w.postFault i .powerFault (.fault .inrush)).react facts).memberMoved i

/-- A run fault (R135). -/
def Work.runFault (i : SlotId) (w : Work) : Work :=
  (((w.openLost i).move i .faulted (some .runFault)).memberMoved i).postFault i .powerFault (.fault .run)

/-- A boot timeout (R53). -/
def Work.bootTimeout (i : SlotId) (w : Work) : Work :=
  ((w.move i .faulted (some .bootTimeout)).memberMoved i).postFault i .powerFault (.fault .bootTimeout)

/-- FAULT asserted reaches a slot (R24, R47, R134). -/
def Work.faultAsserted (i : SlotId) (w : Work) : Work :=
  match w.st.stateOf i with
  | .charging => w.inrushFault i
  | .stabilizing => w.inrushFault i
  | st => if st.runFaults then w.runFault i else w

/-- PGOOD fell reaches a slot (R24, R45, R47, R57, R134). -/
def Work.pgoodFell (i : SlotId) (w : Work) : Work :=
  match w.st.stateOf i with
  | .stabilizing => w.inrushFault i
  | .poweringDown => w.toVacantReady i
  | st => if st.runFaults then w.runFault i else w

/-! ## Extraction -/

/-- The extraction of a slot in this state is a surprise (R137). -/
def SlotState.surprises (st : SlotState) : Bool := st.holdsGrant || st == .budgetWait || st == .recovering

/-- Presence is lost: the slot ends in EMPTY (R137 to R139). In EMPTY and SETTLING the event is not produced. -/
def Work.extract (i : SlotId) (w : Work) : Work :=
  let left := w.st.stateOf i
  if left.debounces then w
  else
    let w := ((w.openLost i).move i .empty none).memberMoved i
    if left.surprises then
      (w.on (State.modRecord i fun r => { r with faultOutstanding := true })).postFault i .surpriseExtraction
        (.leftState left)
    else w.on (State.postSlot i .extracted (.leftState left))

/-! ## Retirement -/

/-- The pair of R124 is tested: the lane settle has expired, and the warning is written or the channel lost. -/
def Work.testIsolating (i : SlotId) (w : Work) : Work :=
  let r := w.st.recordOf i
  if r.state = .isolating ∧ r.phaseTimer = none ∧ (r.warningWritten || r.channelLost) then
    w.move i .poweringDown none
  else w

/-- A member goes to ISOLATING (R124). -/
def Work.isolate (i : SlotId) (w : Work) : Work :=
  ((((w.move i .isolating none).openIsolating i).on (State.offer i .powerOffWarning)).testIsolating i)

/-- The Lane Manager's drained report is taken: a DRAINING slot of a RUNNING batch goes to ISOLATING (R121). -/
def Work.drained (i : SlotId) (w : Work) : Work :=
  if w.st.stateOf i = .draining ∧ w.st.batch.state = .running then w.isolate i else w

/-- The return state a member is started from (R120 steps 1 and 2), none where the start is dropped. -/
def SlotRecord.startsFrom (r : SlotRecord) : Option ReturnState :=
  match r.state with
  | .retirePending => some (r.priorState.getD .inService)
  | .inService => some .inService
  | .powered => some .powered
  | _ => none

/-- Start a member (R120): a drained report made at once moves it on within the start. -/
def Work.startMember (i : SlotId) (w : Work) : Work :=
  match (w.st.recordOf i).startsFrom with
  | none => w.memberMoved i
  | some back =>
    let w := if w.st.stateOf i = .retirePending then w.on (State.offer i .retireAccepted) else w
    let w := w.on (State.modMember i fun m => { m with started := true, returnState := some back })
    let w := (w.move i .draining none).on (State.drainAsk i)
    if w.st.isDrained i then w.drained i else w

/-- Send a started member back with an outcome (R123); the batch-end test is the caller's. -/
def Work.sendBack (i : SlotId) (o : MemberOutcome) (w : Work) : Work :=
  let back := ((w.st.memberOf i).bind (·.returnState)).getD .inService
  let w := w.move i back.toState none
  let w := if back = .inService then w.on fun s => (s.undrain i).considerJoins i else w
  w.on fun s => (s.giveOutcome i o).offer i .retireDenied

/-- A member's drain deadline has expired (R122). -/
def Work.deadline (i : SlotId) (w : Work) : Work :=
  match w.st.memberOf i with
  | none => w
  | some m =>
    if m.force then w.isolate i
    else
      let asked := w.st.askedCount i
      ((w.sendBack i .drainTimeout).on (State.postSlot i .drainTimeout (.count asked))).batchEnd

/-! ## Adoption -/

/-- The grant of an adopted slot (R172 step 1): the grant, whether id unverified is set, and the floor applied flag. -/
def State.adoptGrant (s : State) (i : SlotId) (out : ReadOutcome) : Nat × Bool × Bool :=
  let cap := (s.recordOf i).policy.slotCap
  match out with
  | .success b =>
    let g := grantFor b.demand s.settings.margin s.settings.floor
    if cap < g.1 then (cap, true, g.2) else (g.1, false, g.2)
  | .formatError => (cap, true, false)
  | .unreadable => (cap, true, false)

/-- R172 steps 1 and 2. -/
def State.adopt (i : SlotId) (out : ReadOutcome) (s : State) : State :=
  let g := s.adoptGrant i out
  ((s.modRecord i fun r =>
    { r with
      identity := match out with
        | .success b => some b
        | _ => none
      idUnverified := r.idUnverified || g.2.1
      floorApplied := g.2.2
      power := some { grant := g.1, reserved := true, joinStamp := none, permitHeld := false } }).modPower
    fun p => { p with sumOfGrants := p.sumOfGrants + g.1 }).setDeficit

/-- The re-read of a slot in RECOVERING has ended (R172). -/
def Work.adoptionEnds (i : SlotId) (out : ReadOutcome) (w : Work) : Work :=
  let w := w.on (State.adopt i out)
  let w :=
    if (w.st.recordOf i).laneEvidence then
      (w.move i .inService none).on fun s =>
        ((s.postSlot i .inService (.inService true)).considerJoins i).decideHeld i
    else (w.move i .powered none).on (State.offer i .statusQuery)
  if (w.st.recordOf i).handleClosed then w else w.retireRequest i .handle

/-- The outcome of an identity read reaches the Sequencer (R38, R172); elsewhere it is dropped (R37). -/
def Work.readOutcome (i : SlotId) (out : ReadOutcome) (w : Work) : Work :=
  match w.st.stateOf i with
  | .identifying =>
    match out with
    | .success b => (w.on (State.modRecord i fun r => { r with identity := some b })).vet i b
    | .formatError => w.toRejected i .idFormat
    | .unreadable => w.toRejected i .idUnreadable
  | .recovering => w.adoptionEnds i out
  | _ => w

/-! ## Handle -/

/-- A handle closed event reaches the Sequencer (R23, R42, R58, R114); the flag is already set. -/
def Work.handleClosed (i : SlotId) (w : Work) : Work :=
  match w.st.stateOf i with
  | .identified => w.testAdmission i
  | .vacantReady => if (w.st.recordOf i).idUnverified then w.toIdentifying i else w.toIdentified i
  | .retirePending =>
    if (w.st.recordOf i).batchMember then w
    else (w.on (State.withdraw (.slot i .retireRequest))).denyRequest i
  | _ => w

/-- A handle opened event reaches the Sequencer (R23, R44, R54 to R56, R112); the flag is already clear. -/
def Work.handleOpened (i : SlotId) (w : Work) : Work :=
  match w.st.stateOf i with
  | .budgetWait => w.toIdentified i
  | .queued => w.toIdentified i
  | .charging => w.toVacantReady i
  | .cooling => w.toVacantReady i
  | .stabilizing => w.move i .poweringDown none
  | .powered => w.retireRequest i .handle
  | .inService => w.retireRequest i .handle
  | _ => w

/-! ## Presence -/

/-- A presence edge reaches the Sequencer (R35): a slot in EMPTY with a role goes to SETTLING. -/
def Work.presenceEdge (i : SlotId) (w : Work) : Work :=
  if w.st.stateOf i = .empty ∧ w.st.roleOf i ≠ .unused then w.move i .settling none else w

/-- A presence settled event reaches the Sequencer (R35, R36). -/
def Work.presenceSettled (i : SlotId) (present : Bool) (w : Work) : Work :=
  match w.st.stateOf i with
  | .settling => if present then w.toIdentifying i else w.move i .empty none
  | .empty => if present && w.st.roleOf i != .unused then w.toIdentifying i else w
  | _ => w

/-! ## Hand-overs -/

/-- Take one handed-over event (log entry 6). -/
def Work.take (h : Handover) (w : Work) : Work :=
  match h with
  | .fault i => w.faultAsserted i
  | .presenceEdge i => w.presenceEdge i
  | .drained i => w.drained i
  | .considerAll => w.on State.considerAll

/-- How many hand-overs one step takes at most (log entry 7). -/
def settleBound : Nat := 2048

/-- Take the events handed over, first in first out, until none waits. -/
def settle : Nat → Work → State
  | 0, w => w.st
  | n + 1, w =>
    match w.todo with
    | [] => w.st
    | h :: rest => settle n (Work.take h { w with todo := rest })

/-- Run an event and everything it hands over. -/
def State.run (f : Work → Work) (s : State) : State := settle settleBound (f (Work.start s))

end Sys2Proof.Machine
end

