-- ==== Sys2Proof/Machine/ChannelEvents.lean ====
section
/-! DEFINITION. The meanings of the slot channel's events: the end of an attempt at the transfer in flight (R82 to R94).
An end that meets no transfer of its kind changes nothing. -/

namespace Sys2Proof.Machine

open Sys2Proof Host

/-- The kind of the transfer in flight. -/
def State.inFlight (s : State) (i : SlotId) : Option TransferKind := (s.slot i).chan.transfer.map (·.kind)

/-- The transfer in flight may be tried again (R82). -/
def Channel.mayRetry (c : Channel) : Bool :=
  match c.transfer with
  | some t => decide (t.attempt < Config.attempts)
  | none => false

/-- Try the transfer in flight again (R82). -/
def Channel.retry (c : Channel) : Channel :=
  { c with transfer := c.transfer.map fun t => { t with attempt := t.attempt + 1 } }

/-- A success of the channel ends a loss (R89). -/
def State.restored (i : SlotId) (s : State) : State :=
  if (s.recordOf i).channelLost then
    (s.modRecord i fun r => { r with channelLost := false }).postSlot i .channel (.channel true)
  else s

/-- An identity read ends: its outcome is reported, and the engine chooses its next work (R83, R84). -/
def Work.endIdentityRead (i : SlotId) (out : ReadOutcome) (w : Work) : Work :=
  ((w.on (State.modChan i fun c => { c with identityDue := false })).readOutcome i out).on
    (State.modChan i Channel.free)

/-- An attempt at an identity read fails: tried again, or unreadable after the last attempt (R84). -/
def Work.identityFails (i : SlotId) (w : Work) : Work :=
  if (w.st.slot i).chan.mayRetry then w.on (State.modChan i Channel.retry) else w.endIdentityRead i .unreadable

/-- A completed attempt at an identity read (R84, R175). -/
def Work.identityCompletes (i : SlotId) (block : Vector Byte 32) (w : Work) : Work :=
  if blockChecks block then
    match blockFields block with
    | some b => (w.on (State.restored i)).endIdentityRead i (.success b)
    | none => w.endIdentityRead i .formatError
  else w.identityFails i

/-- IDENTITY_READ_COMPLETE (R84, R89, R175). -/
def execIdentityReadComplete (i : SlotId) (block : Vector Byte 32) (s : State) : Outcome State Fault Refusal :=
  .next (if s.inFlight i = some .identityRead then s.run (Work.identityCompletes i block) else s)

/-- A READY notice (R52). -/
def Work.ready (i : SlotId) (w : Work) : Work :=
  if w.st.stateOf i = .powered then
    (w.move i .inService none).on fun s => (s.postSlot i .inService (.inService false)).considerJoins i
  else w

/-- A notice is handed to the block that acts on it (R87). -/
def Work.notice (i : SlotId) (code arg : Byte) (w : Work) : Work :=
  match code.toNat with
  | 0 => w
  | 1 => w.ready i
  | 2 => w.retireRequest i .blade
  | 3 => w.drainDone i arg
  | _ => w.on fun s =>
    (s.modRecord i fun r => { r with lastNotice := some { code := code, arg := arg } }).postSlot i .notice
      (.notice code arg)

/-- The end of a notice read: the kind served, the level of NTFY_L, and the next choice (R83, R86). -/
def State.endNotice (i : SlotId) (s : State) : State :=
  let again := (s.stateOf i).conversing && (s.slot i).lines.ntfyL == .low
  s.modChan i fun c => { c with lastServed := .notice, noticePending := c.noticePending || again }.free

/-- NOTICE_READ_COMPLETE (R86, R87, R89). -/
def execNoticeReadComplete (i : SlotId) (code arg : Byte) (s : State) : Outcome State Fault Refusal :=
  .next
    (if s.inFlight i = some .noticeRead then
      s.run fun w => ((w.on (State.restored i)).notice i code arg).on (State.endNotice i)
    else s)

/-- A written LINK_UP marks its entry's link-up delivered, unless the entry is OPEN by then (R101; log entry 22). -/
def State.linkUpWritten (p h : SlotId) (s : State) : State :=
  s.modPair p h fun e => if e.linkState = .open then e else { e with linkUp := .delivered }

/-- The engine reports a written cue (R92). -/
def Work.cueWritten (i : SlotId) (c : Cue) (w : Work) : Work :=
  match c with
  | .linkUp h => w.on (State.linkUpWritten i h)
  | .powerOffWarning =>
    if w.st.stateOf i = .isolating then
      (w.on (State.modRecord i fun r => { r with warningWritten := true })).testIsolating i
    else w
  | _ => w

/-- CUE_WRITE_COMPLETE (R89, R92). -/
def execCueWriteComplete (i : SlotId) (s : State) : Outcome State Fault Refusal :=
  .next
    (match s.inFlight i with
    | some (.cueWrite c) =>
      s.run fun w =>
        ((w.on (State.restored i)).cueWritten i c).on (State.modChan i fun c => { c with lastServed := .cue }.free)
    | _ => s)

/-- The cue is a hub cue for a hub the payload has no entry for (R93). -/
def State.lostHub (s : State) (p : SlotId) (c : Cue) : Bool :=
  match c.group with
  | .hub h => (s.entry p h).isNone
  | _ => false

/-- Return a cue whose write has failed (R93), with the engine's report and what follows from it (R104, R105). -/
def Work.returnCue (i : SlotId) (c : Cue) (w : Work) : Work :=
  if w.st.lostHub i c then w
  else
    let back := Machine.returnCue c (w.st.slot i).chan.cueQueue
    let w := w.on fun s => (s.modChan i fun ch => { ch with cueQueue := back.1 }).takeReport i back.2
    match back.2 with
    | .drained h _ => w.report [i, h]
    | _ => w

/-- Steps 2 to 4 of R88, and the Sequencer's test of a slot in ISOLATING. -/
def Work.channelLoss (i : SlotId) (served : ServedKind) (w : Work) : Work :=
  let w := w.on (State.modChan i fun c => { c with lastServed := served })
  let w :=
    if (w.st.recordOf i).channelLost then w
    else w.on fun s =>
      (s.modRecord i fun r => { r with channelLost := true }).postSlot i .channel (.channel false)
  (w.on (State.modChan i fun c => { c with transfer := none, pause := some Config.channelPause })).testIsolating i

/-- The third no-answer of a notice read or a cue write (R88). -/
def Work.transferFails (i : SlotId) (k : TransferKind) (w : Work) : Work :=
  match k with
  | .identityRead => w.identityFails i
  | .noticeRead => (w.on (State.modChan i fun c => { c with noticePending := true })).channelLoss i .notice
  | .cueWrite c => (w.returnCue i c).channelLoss i .cue

/-- NO_ANSWER (R82, R84, R86, R88, R92). -/
def execNoAnswer (i : SlotId) (s : State) : Outcome State Fault Refusal :=
  .next
    (match s.inFlight i with
    | none => s
    | some k =>
      s.run fun w =>
        if (w.st.slot i).chan.mayRetry then w.on (State.modChan i Channel.retry) else w.transferFails i k)

end Sys2Proof.Machine
end

