-- ==== Sys2Proof/Machine/Responses.lean ====
section
/-! DEFINITION. The bytes of responses (chapter 12): codes (12.3), the READ_SLOT snapshot (12.4), the other reads, and
response frames (12.2). -/

namespace Sys2Proof.Machine

open Sys2Proof

/-! ## Codes (section 12.3) -/

/-- State codes, 0 to 19 in the order of R7. -/
def SlotState.code : SlotState → Nat
  | .empty => 0
  | .settling => 1
  | .identifying => 2
  | .identified => 3
  | .rejected => 4
  | .budgetWait => 5
  | .queued => 6
  | .charging => 7
  | .cooling => 8
  | .stabilizing => 9
  | .powered => 10
  | .inService => 11
  | .retirePending => 12
  | .draining => 13
  | .isolating => 14
  | .poweringDown => 15
  | .vacantReady => 16
  | .faulted => 17
  | .stuck => 18
  | .recovering => 19

/-- Reason codes, 1 to 10 in the order of R9. -/
def ReasonCode.code : ReasonCode → Nat
  | .idFormat => 1
  | .idUnreadable => 2
  | .roleMismatch => 3
  | .noFabric => 4
  | .overCap => 5
  | .denied => 6
  | .inrushFault => 7
  | .runFault => 8
  | .bootTimeout => 9
  | .stuck => 10

/-- The byte of an optional reason code; 0 means absent. -/
def reasonByte : Option ReasonCode → Byte
  | none => 0
  | some c => byte c.code

/-- The byte of an optional prior or return state; 0xFF means absent. -/
def returnByte : Option ReturnState → Byte
  | none => 0xFF
  | some r => byte r.toState.code

/-- Batch state codes (R176). -/
def BatchState.code : BatchState → Nat
  | .idle => 0
  | .gathering => 1
  | .running => 2
  | .holding => 3
  | .abandoning => 4
  | .done => 5
  | .doneFault => 6

/-- Member outcome codes; 0 means absent. -/
def outcomeCode : Option MemberOutcome → Nat
  | none => 0
  | some .retired => 1
  | some .extracted => 2
  | some .stuck => 3
  | some .faulted => 4
  | some .drainTimeout => 5
  | some .abandoned => 6

/-- Class codes, 1 to 17 in natural order. -/
def EventClass.code : EventClass → Nat
  | .slot c => c.index.val + 1
  | .shelf c => c.index.val + 12

/-- Link codes, 0 A and 1 B. -/
def linkCode : Link → Nat
  | .a => 0
  | .b => 1

/-- The numbers of the POWER_FAULT details. -/
def FaultKind.code : FaultKind → Nat
  | .inrush => 1
  | .bootTimeout => 2
  | .run => 3
  | .stuck => 4

/-- The numbers of the LINK causes (R160). -/
def LinkCause.code : LinkCause → Nat
  | .silent => 1
  | .resumed => 2
  | .takeover => 3
  | .release => 4
  | .reset => 5

/-- Enumerated details of two, numbered from 1. -/
def oneOrTwo (second : Bool) : Nat := if second then 2 else 1

/-- The two bytes of a detail (section 12.3). -/
def Detail.bytes : Detail → List Byte
  | .fault kind => [byte kind.code, 0]
  | .leftState st => [byte st.code, 0]
  | .reason c => [byte c.code, 0]
  | .request .handle => [1, 0]
  | .request .blade => [2, 0]
  | .count n => [byte n, 0]
  | .inService adopted => [byte (oneOrTwo adopted), 0]
  | .retired batch => [byte (oneOrTwo batch), 0]
  | .notice code arg => [code, arg]
  | .channel restored => [byte (oneOrTwo restored), 0]
  | .storm i => [byte (slotNumber i), 0]
  | .restarted .resetLine => [1, 0]
  | .restarted .command => [2, 0]
  | .link cause l => [byte cause.code, byte (linkCode l)]
  | .budget cleared => [byte (oneOrTwo cleared), 0]
  | .supply removed => [byte (oneOrTwo removed), 0]
  | .batchEnd failed => [byte (oneOrTwo failed), 0]

/-- The bytes of an optional detail; a pending entry always has one (R147). -/
def detailBytes : Option Detail → List Byte
  | none => [0, 0]
  | some d => d.bytes

/-- Status codes (section 12.2). -/
def Status.code : Status → Nat
  | .ok => 0x00
  | .okClamped => 0x01
  | .unknownCommand => 0x80
  | .badSlot => 0x81
  | .badField => 0x82
  | .wrongState => 0x83
  | .notActive => 0x84
  | .quarantined => 0x85
  | .batchBusy => 0x86
  | .batchFaulted => 0x87
  | .duplicate => 0x88
  | .hubLimit => 0x89
  | .stackFull => 0x8A
  | .nothingPending => 0x8B
  | .stillPowered => 0x8C

/-- The bytes of a response frame (section 12.2). -/
def Response.bytes (r : Response) : List Byte :=
  [byte r.status.code, r.code, flag r.overrun] ++ two r.data.length ++ r.data

/-- The empty response (R157, section 12.2). -/
def emptyResponse : Response := { status := .ok, code := 0, overrun := false, data := [] }

/-! ## READ_SLOT (section 12.4) -/

/-- The byte of bits, bit 0 first. -/
def bits : List Bool → Byte
  | [] => 0
  | b :: t => flag b + 2 * bits t

/-- Bytes brought to a length with zeros. -/
def padTo (n : Nat) (l : List Byte) : List Byte := l ++ List.replicate (n - l.length) 0

/-- Bytes 1 to 16 of the snapshot: the policy part. -/
def Policy.bytes (p : Policy) : List Byte :=
  [byte p.role.code, byte (p.read .admitMode), byte p.priority] ++ two p.slotCap ++ [byte p.inrushLimit]
    ++ two p.chargeTimeout ++ [byte p.chargeRetries] ++ two p.bootDefault
    ++ [byte (p.read .autoRetire), byte (p.read .openPolarity)] ++ two p.presenceDebounce ++ [byte p.presenceLoss]

/-- The phase timer field (R8): in SETTLING the debounce timer's count. -/
def Slot.phaseRemaining (x : Slot) : Nat :=
  if x.record.state = .settling then remaining x.cond.debounce else remaining x.record.phaseTimer

/-- Bytes 17 to 25: state, phase timer, reason code, retries used, flags and prior state. -/
def Slot.lifecycleBytes (x : Slot) : List Byte :=
  let r := x.record
  [byte r.state.code] ++ four x.phaseRemaining ++ [reasonByte r.reason, byte r.retriesUsed]
    ++ [bits [r.handleClosed, r.approved, r.faultOutstanding, r.adopted, r.idUnverified, r.floorApplied, r.channelLost,
        r.batchMember]]
    ++ [returnByte r.priorState]

/-- Bytes 26 to 58: the identity part. -/
def identityBytes : Option Identity → List Byte
  | none => 0 :: List.replicate 32 0
  | some b => 1 :: b.block

/-- Bytes 59 to 65: the power part. -/
def powerBytes : Option PowerPart → List Byte
  | none => List.replicate 7 0
  | some p =>
    [bits [true, p.reserved, p.permitHeld, p.joinStamp.isSome]] ++ two p.grant ++ four (p.joinStamp.getD 0)

/-- Bytes 66 to 68: the last notice. -/
def noticeBytes : Option Notice → List Byte
  | none => [0, 0, 0]
  | some n => [1, n.code, n.arg]

/-- Bytes 69 to 77: the cue queue copy. -/
def cueBytes (q : List Cue) : List Byte := byte q.length :: padTo 8 ((q.take 4).flatMap Cue.bytes)

/-- The code of an LED pattern. -/
def LedPattern.code : LedPattern → Nat
  | .off => 0
  | .on => 1
  | .slowBlink => 2
  | .fastBlink => 3

/-- Bytes 78 to 80: line levels, ILIM and LED. The handle level is the handle closed flag (log entry 13). -/
def Slot.lineBytes (x : Slot) : List Byte :=
  [bits [x.cond.present, x.record.handleClosed, x.lines.pgood == .high, x.lines.fltL == .low, x.out.preEn, x.out.mainEn,
      x.out.laneEnA, x.out.laneEnB],
    byte x.out.ilim, byte x.out.led.code]

/-- The READ_SLOT snapshot (R16, section 12.4). -/
def slotData (i : SlotId) (s : State) : List Byte :=
  let x := s.slot i
  [byte (slotNumber i)] ++ x.record.policy.bytes ++ x.lifecycleBytes ++ identityBytes x.record.identity
    ++ powerBytes x.record.power ++ noticeBytes x.record.lastNotice ++ cueBytes x.chan.cueQueue ++ x.lineBytes

/-! ## The other reads -/

/-- A list with its one-byte count (section 12.4). -/
def listBytes {α : Type} (f : α → List Byte) (l : List α) : List Byte := byte l.length :: l.flatMap f

/-- Link state codes. -/
def LinkState.code : LinkState → Nat
  | .open => 0
  | .joining => 1
  | .joined => 2
  | .drainAsked => 3
  | .drained => 4

/-- Link-up codes. -/
def LinkUp.code : LinkUp → Nat
  | .none => 0
  | .offered => 1
  | .delivered => 2

/-- Hub name codes. -/
def hubCode : HubName → Nat
  | .a => 0
  | .b => 1

/-- A Link Table entry in READ_LINKS. -/
def LinkEntry.bytes (e : LinkEntry) : List Byte :=
  [byte (slotNumber e.payload), byte (hubCode e.hub), byte (slotNumber e.hubSlot), byte e.linkState.code,
    byte e.linkUp.code] ++ four (remaining e.settle)

/-- The byte of an optional slot number; 0 when absent. -/
def slotByte : Option SlotId → Byte
  | none => 0
  | some i => byte (slotNumber i)

/-- READ_LINKS (R110): the whole table, or the entries touching one slot, and the hubs' slot numbers. -/
def linksData (of : Option SlotId) (s : State) : List Byte :=
  let shown := match of with
    | none => s.links
    | some i => s.links.filter (·.touches i)
  listBytes LinkEntry.bytes shown ++ [slotByte (s.hubNamed .a), slotByte (s.hubNamed .b)]

/-- READ_SHELF (R79). -/
def shelfData (s : State) : List Byte :=
  (shelfFieldList.flatMap fun f => two (s.settings.read f)) ++ two s.power.sumOfGrants
    ++ [flag s.power.deficit, flag s.power.freeze, flag s.shelf.supplyAsserted, byte s.power.holders.length]
    ++ four s.power.stampCounter

/-- READ_QUEUES (R79): wait list as slot, grant, stamp; queue as slot, priority, stamp, grant; holders as slot and charge
timeout. -/
def queuesData (s : State) : List Byte :=
  listBytes (fun i => byte (slotNumber i) :: (two (s.grantOf i) ++ four (s.stampOf i))) s.power.waitList
    ++ listBytes (fun i =>
      [byte (slotNumber i), byte (s.recordOf i).policy.priority] ++ four (s.stampOf i) ++ two (s.grantOf i))
      s.power.permitQueue
    ++ listBytes (fun i => byte (slotNumber i) :: four (remaining (s.recordOf i).phaseTimer)) s.power.holders

/-- A batch member in READ_BATCH. -/
def Member.bytes (m : Member) : List Byte :=
  [byte (slotNumber m.slot), flag m.force, flag m.started, returnByte m.returnState, byte (outcomeCode m.outcome)]

/-- READ_BATCH (R133). -/
def batchData (s : State) : List Byte :=
  [byte s.batch.state.code] ++ four (remaining s.batch.window) ++ listBytes Member.bytes s.batch.members

/-- A pending entry in READ_PENDING. -/
def pendingBytes (t : Attention) (k : EventKey) : List Byte :=
  [byte k.slotNumber, byte k.eventClass.code, byte (t.levelOf k)] ++ detailBytes (t.entry k).detail
    ++ [flag (t.entry k).repeated]

/-- A link's service state in READ_PENDING. -/
def Port.serviceBytes (p : Port) : List Byte :=
  [byte p.level] ++ listBytes (fun n => [byte n]) p.stack ++ four (remaining p.holdoff)

/-- READ_PENDING (R155). -/
def pendingData (s : State) : List Byte :=
  listBytes (pendingBytes s.attention) (allKeys.filter fun k => (s.attention.entry k).pending)
    ++ (eventClasses.map fun c => byte (s.attention.levels.level c))
    ++ s.portA.serviceBytes ++ s.portB.serviceBytes

/-- The duration of the episode (R164). -/
def State.episodeDuration (s : State) : Nat :=
  let last := s.episode.endOfSilence.getD s.elapsed
  let start := s.episode.start.getD 0
  (last + Config.elapsedModulus - start) % Config.elapsedModulus

/-- The code of an episode state. -/
def EpisodeState.code : EpisodeState → Nat
  | .none => 0
  | .open => 1
  | .closed => 2

/-- READ_EPISODE (R164); while the record is NONE the link, start and duration read 0 (section 12.4). -/
def episodeData (s : State) : List Byte :=
  let e := s.episode
  let link := match e.silentLink with
    | none => 0
    | some l => linkCode l
  let duration := if e.state = .none then 0 else s.episodeDuration
  [byte e.state.code, byte link] ++ four (e.start.getD 0) ++ four duration
    ++ listBytes (fun i => [byte (slotNumber i)]) e.retired

end Sys2Proof.Machine
end

