-- ==== Sys2Proof/Machine/Ports.lean ====
section
/-! DEFINITION. The Management Link Ports: judging a transaction (R158), holding and fetching responses (R157, R159), the
link roles (R160 to R163, R166), episodes (R164) and the path of an accepted frame to its owner. -/

namespace Sys2Proof.Machine

open Sys2Proof

/-! ## Held responses -/

/-- The transaction clocked out every byte of the held response (R159); a port without one has nothing left to fetch. -/
def Port.fetched (clocked : Nat) (p : Port) : Bool :=
  match p.held with
  | none => true
  | some r => decide (r.bytes.length ≤ clocked)

/-- After NONE, a short frame or a frame that forms no response: a fetched response is no longer held (R159). -/
def Port.keepHeld (clocked : Nat) (p : Port) : Port := if p.fetched clocked then { p with held := none } else p

/-- Hold the response to a frame, with the overrun indication where it replaces one not fetched (R159). -/
def Port.hold (clocked : Nat) (status : Status) (code : Byte) (data : List Byte) (p : Port) : Port :=
  { p with held := some { status := status, code := code, overrun := !p.fetched clocked, data := data } }

/-- The port takes no frame: a restart is under way or its LRST line is low (R166, R167). -/
def State.closed (s : State) (l : Link) : Bool := s.shelf.inReset || (s.port l).inReset

/-- A short frame leaves the held response as NONE does, and has no other effect (R158, R159). -/
def State.shortFetch (l : Link) (clocked : Nat) (s : State) : State :=
  if s.closed l then s else s.modPort l (Port.keepHeld clocked)

/-- The bytes a transaction of a given length clocks out (R157): the held or empty response, then filler bytes 0xFF; none
from a port in reset, whose line floats (R34, R166). -/
def clockedOut (s : State) (l : Link) (clocked : Nat) : List Byte :=
  if (s.port l).inReset then []
  else (((s.port l).held.getD emptyResponse).bytes ++ List.replicate clocked 0xFF).take clocked

/-! ## Roles -/

/-- Set the end of silence of an open episode to the present count (R162). -/
def State.endSilence (s : State) : State :=
  if s.episode.state = .open then { s with episode := { s.episode with endOfSilence := some s.elapsed } } else s

/-- A link becomes ACTIVE (R161, R162): supervision starts, the service state is clear, LINK is posted, and the report
has the ATTN lines set. -/
def State.becomeActive (l : Link) (cause : LinkCause) (s : State) : State :=
  let s := s.endSilence
  (s.modPort l fun p =>
    { p.clearService with role := .active, supervision := some s.settings.supervisionTime }).postShelf .link
      (.link cause l)

/-- The ACTIVE link stops being ACTIVE (R149, R161, R163, R166): LINK is posted, and every slot is considered for
autonomous retirement. -/
def Work.stopActive (l : Link) (role : LinkRole) (cause : LinkCause) (w : Work) : Work :=
  (w.on fun s =>
    (s.modPort l fun p => { p.clearService with role := role, supervision := none }).postShelf .link
      (.link cause l)).hand [.considerAll]

/-- Step 1 of R158: a SILENT link becomes ACTIVE (R162), an ACTIVE link's supervision starts again (R161). -/
def Work.roleStep (l : Link) (w : Work) : Work :=
  match (w.st.port l).role with
  | .silent => w.on (State.becomeActive l .resumed)
  | .active => w.on fun s => s.modPort l fun p => { p with supervision := some s.settings.supervisionTime }
  | .standby => w

/-- Open an episode when a link falls silent; an episode already open goes on, its end of silence made absent (R161). -/
def Episode.fallSilent (l : Link) (now : Nat) (e : Episode) : Episode :=
  if e.state = .open then { e with endOfSilence := none }
  else { state := .open, silentLink := some l, start := some now, endOfSilence := none, retired := [] }

/-- The supervision timer of a link has expired (R161). -/
def Work.fallSilent (l : Link) (w : Work) : Work :=
  (w.on fun s => { s with episode := s.episode.fallSilent l s.elapsed }).stopActive l .silent .silent

/-! ## Accepted frames -/

/-- The groups of commands step 3 of R158 tells apart (R167). -/
inductive CommandKind where
  | fetch
  | read
  | change
  | device
  | role
  deriving DecidableEq, Repr

/-- An answer: its status, and its data as read from the state once the whole event has been taken (log entry 11). -/
structure Reply where
  status : Status
  data : State → List Byte

/-- A refusal carries no data (log entry 10). -/
def Reply.refuse (st : Status) : Reply := { status := st, data := fun _ => [] }

/-- OK with data. -/
def Reply.ok (data : State → List Byte) : Reply := { status := .ok, data := data }

/-- OK with no result. -/
def Reply.done : Reply := Reply.ok fun _ => []

/-- OK, or OK_CLAMPED where a value was clamped, with data. -/
def Reply.stored (clamped : Bool) (data : State → List Byte) : Reply :=
  { status := if clamped then .okClamped else .ok, data := data }

/-- What handling a command gives: the work done, and its answer where one is formed. -/
structure Handled where
  work : Work
  reply : Option Reply

/-- Refused: nothing changes. -/
def Work.refuse (st : Status) (w : Work) : Handled := { work := w, reply := some (Reply.refuse st) }

/-- Answered. -/
def Work.answer (r : Reply) (w : Work) : Handled := { work := w, reply := some r }

/-- Step 3 of R158: the refusal of a changing or device command from a link that is not ACTIVE or is quarantined. -/
def State.kindRefusal (s : State) (l : Link) (kind : CommandKind) : Option Status :=
  match kind with
  | .change | .device =>
    if (s.port l).role != .active then some .notActive
    else if s.episode.state = .open then some .quarantined
    else none
  | _ => none

/-- Steps 1 to 4 of R158 for an accepted frame, and the long length. -/
def Work.handle (kind : CommandKind) (owner : Work → Handled) (f : Frame) (w : Work) : Handled :=
  let w := w.roleStep f.link
  if Config.paramMax < f.len.toNat then w.refuse .badField
  else
    match w.st.kindRefusal f.link kind with
    | some st => w.refuse st
    | none => owner w

/-- The port does with its held response what the handled frame asks (R159). -/
def State.respond (code : Byte) (f : Frame) (reply : Option Reply) (s : State) : State :=
  match reply with
  | some r => s.modPort f.link (Port.hold f.clocked r.status code (r.data s))
  | none => s.modPort f.link (Port.keepHeld f.clocked)

/-- A transaction that carries a frame under a command code (R158). -/
def State.accept (code : Byte) (kind : CommandKind) (owner : Work → Handled) (f : Frame) (s : State) : State :=
  if s.closed f.link then s
  else if !f.complete then s.shortFetch f.link f.clocked
  else
    let h := (Work.start s).handle kind owner f
    (settle settleBound h.work).respond code f h.reply

end Sys2Proof.Machine
end

