-- ==== Sys2Proof/Machine/Expiries.lean ====
section
/-! DEFINITION. The meanings of the timer expiries. An expiry is taken only of a timer that runs (R8, R19), whatever its
count (log entry 3); of one that does not run it changes nothing. -/

namespace Sys2Proof.Machine

open Sys2Proof Host

/-- Take the expiry of a timer. -/
def State.expiry (timer : Option Nat) (f : Work → Work) (s : State) : State := if s.expires timer then s.run f else s

/-- The phase timer of a slot as it runs in one state: absent in any other state and while paused (R8). -/
def State.phaseIn (s : State) (i : SlotId) (st : SlotState) : Option Nat :=
  if s.stateOf i = st ∧ !(s.recordOf i).phasePaused then (s.recordOf i).phaseTimer else none

/-- Take the expiry of a slot's phase timer in one state; the timer then reads 0 (R8). -/
def State.phaseExpiry (i : SlotId) (st : SlotState) (f : Work → Work) (s : State) : State :=
  s.expiry (s.phaseIn i st) fun w => f (w.on (State.modRecord i fun r => { r with phaseTimer := none }))

/-- PRESENCE_SETTLED (R20, R35, R36). -/
def execPresenceSettled (i : SlotId) (s : State) : Outcome State Fault Refusal :=
  .next (s.expiry (s.slot i).cond.debounce fun w =>
    let present := (s.slot i).lines.presL == .low
    (w.on (State.modCond i fun c => { c with debounce := none, present := present })).presenceSettled i present)

/-- PRESENCE_LOST (R21, R137 to R139). -/
def execPresenceLost (i : SlotId) (s : State) : Outcome State Fault Refusal :=
  .next (s.expiry (s.slot i).cond.loss fun w =>
    (w.on (State.modCond i fun c => { c with loss := none, present := false })).extract i)

/-- The handle's settle period has ended (R23). -/
def Work.handleSettled (i : SlotId) (w : Work) : Work :=
  let r := w.st.recordOf i
  let closed := handleMeansClosed r.policy.openPolarity (w.st.slot i).lines.hdl
  if closed = r.handleClosed then w
  else
    let w := w.on (State.modRecord i fun r => { r with handleClosed := closed })
    if closed then w.handleClosed i else w.handleOpened i

/-- HANDLE_SETTLE_EXPIRY (R23). -/
def execHandleSettleExpiry (i : SlotId) (s : State) : Outcome State Fault Refusal :=
  .next (s.expiry (s.slot i).cond.handle fun w =>
    (w.on (State.modCond i fun c => { c with handle := none })).handleSettled i)

/-- The SUPPLY_LOW settle period has ended (R26, R76). -/
def Work.supplySettled (w : Work) : Work :=
  let asserted := w.st.shelf.supplyLow == .high
  if asserted = w.st.shelf.supplyAsserted then w
  else
    let w := w.on (State.modShelf fun v => { v with supplyAsserted := asserted })
    if asserted then w.backOffAll.on (State.postShelf .supply (.supply false))
    else (w.on (State.postShelf .supply (.supply true))).arbiter

/-- SUPPLY_LOW_SETTLE_EXPIRY (R26, R76). -/
def execSupplyLowSettleExpiry (s : State) : Outcome State Fault Refusal :=
  .next (s.expiry s.shelf.supplySettle fun w =>
    (w.on (State.modShelf fun v => { v with supplySettle := none })).supplySettled)

/-- CHARGE_TIMEOUT (R47). -/
def execChargeTimeout (i : SlotId) (s : State) : Outcome State Fault Refusal :=
  .next (s.phaseExpiry i .charging (Work.inrushFault i))

/-- The cool-down has ended: back to QUEUED with a new stamp, and the arbiter acts (R49, R70). -/
def Work.coolDownEnds (i : SlotId) (w : Work) : Work := ((w.on (State.giveStamp i)).enter i .queued none).arbiter

/-- COOL_DOWN_EXPIRY (R49). -/
def execCoolDownExpiry (i : SlotId) (s : State) : Outcome State Fault Refusal :=
  .next (s.phaseExpiry i .cooling (Work.coolDownEnds i))

/-- The stabilize time has ended (R50). -/
def Work.stabilizeEnds (i : SlotId) (w : Work) : Work :=
  if (w.st.slot i).lines.pgood = .high then w.move i .powered none else w.inrushFault i

/-- STABILIZE_TIME_EXPIRY (R50). -/
def execStabilizeTimeExpiry (i : SlotId) (s : State) : Outcome State Fault Refusal :=
  .next (s.phaseExpiry i .stabilizing (Work.stabilizeEnds i))

/-- BOOT_TIMEOUT (R53). -/
def execBootTimeout (i : SlotId) (s : State) : Outcome State Fault Refusal :=
  .next (s.phaseExpiry i .powered (Work.bootTimeout i))

/-- POWER_OFF_TIMER_EXPIRY (R57, R125). -/
def execPowerOffTimerExpiry (i : SlotId) (s : State) : Outcome State Fault Refusal :=
  .next (s.phaseExpiry i .poweringDown (Work.powerOffEnds i))

/-- DRAIN_DEADLINE_EXPIRY (R122). -/
def execDrainDeadlineExpiry (i : SlotId) (s : State) : Outcome State Fault Refusal :=
  .next (s.phaseExpiry i .draining (Work.deadline i))

/-- ISOLATING_LANE_SETTLE_EXPIRY (R124). -/
def execIsolatingLaneSettleExpiry (i : SlotId) (s : State) : Outcome State Fault Refusal :=
  .next (s.phaseExpiry i .isolating (Work.testIsolating i))

/-- The entry of a payload and a hub name whose lane settle timer runs (R100). -/
def State.settling (s : State) (p : SlotId) (h : HubName) : Option LinkEntry :=
  s.links.find? fun e => e.payload == p && e.hub == h && e.linkState == .joining && e.settle.isSome

/-- ENTRY_LANE_SETTLE_EXPIRY (R100). -/
def execEntryLaneSettleExpiry (p : SlotId) (h : HubName) (s : State) : Outcome State Fault Refusal :=
  .next
    (match s.settling p h with
    | none => s
    | some e => s.expiry e.settle fun w =>
      w.on fun s => (s.modPair p e.hubSlot fun x => { x with linkState := .joined, settle := none }).announce p e.hubSlot)

/-- The members that have not been started and have no outcome, in list order (R120). -/
def Batch.unstarted (b : Batch) : List SlotId := (b.members.filter fun m => !m.started && m.outcome.isNone).map (·.slot)

/-- The gather window has ended (R120). -/
def Work.windowEnds (w : Work) : Work :=
  let w := w.on (State.modBatch fun b => { b with state := .running, window := none })
  (w.st.batch.unstarted.foldl (fun w i => w.startMember i) w).batchEnd

/-- GATHER_WINDOW_EXPIRY (R120). -/
def execGatherWindowExpiry (s : State) : Outcome State Fault Refusal :=
  .next (if s.batch.state = .gathering then s.expiry s.batch.window Work.windowEnds else s)

/-- CHANNEL_LOST_PAUSE_EXPIRY (R89). -/
def execChannelLostPauseExpiry (i : SlotId) (s : State) : Outcome State Fault Refusal :=
  .next (s.expiry (s.slot i).chan.pause fun w => w.on (State.modChan i fun c => { c with pause := none }.choose))

/-- HOLDOFF_EXPIRY (R150, R153). -/
def execHoldoffExpiry (l : Link) (s : State) : Outcome State Fault Refusal :=
  .next (s.expiry (s.port l).holdoff fun w =>
    w.on fun s => (s.modPort l fun p => { p with holdoff := none }).judge)

/-- SUPERVISION_EXPIRY (R161). -/
def execSupervisionExpiry (l : Link) (s : State) : Outcome State Fault Refusal :=
  .next (if (s.port l).role = .active then s.expiry (s.port l).supervision (Work.fallSilent l) else s)

/-- LED_BLINK_TOGGLE (R31). -/
def execLedBlinkToggle (i : SlotId) (s : State) : Outcome State Fault Refusal :=
  .next (s.expiry (s.slot i).out.blink fun w =>
    w.on (State.modOut i fun o => { o with lit := !o.lit, blink := o.led.halfPeriod }))

end Sys2Proof.Machine
end

