-- ==== Sys2Proof/Machine/LineEvents.lean ====
section
/-! DEFINITION. The meanings of the line edges. The level a line goes to is kept at once; while a restart is under way no
line event is taken (R169). -/

namespace Sys2Proof.Machine

open Sys2Proof Host

/-- Take a line event, unless a restart is under way (R169). -/
def State.line (f : Work → Work) (s : State) : State := if s.shelf.inReset then s else s.run f

/-- The presence filter takes an edge (R20, R21). -/
def Conditioning.edge (p : Policy) (debounces : Bool) (level : Level) (c : Conditioning) : Conditioning :=
  if debounces then { c with debounce := some p.presenceDebounce }
  else
    match level with
    | .high => { c with loss := some p.presenceLoss }
    | .low => { c with loss := none }

/-- An edge of PRES_L (R20, R21, R35). -/
def Work.presEdge (i : SlotId) (level : Level) (w : Work) : Work :=
  let debounces := (w.st.stateOf i).debounces
  let w := w.on (State.modCond i (Conditioning.edge (w.st.recordOf i).policy debounces level))
  if debounces then w.presenceEdge i else w

/-- PRESENCE_EDGE (R20, R21). -/
def execPresenceEdge (i : SlotId) (level : Level) (s : State) : Outcome State Fault Refusal :=
  .next ((s.modLines i fun v => { v with presL := level }).line (Work.presEdge i level))

/-- HANDLE_EDGE (R23). -/
def execHandleEdge (i : SlotId) (level : Level) (s : State) : Outcome State Fault Refusal :=
  .next ((s.modLines i fun v => { v with hdl := level }).line fun w =>
    w.on (State.modCond i fun c => { c with handle := some Config.handleSettle }))

/-- PGOOD rose reaches a slot (R46): only CHARGING acts on it. -/
def Work.pgoodRose (i : SlotId) (w : Work) : Work :=
  if w.st.stateOf i = .charging then w.move i .stabilizing none else w

/-- PGOOD_ROSE (R24, R46). -/
def execPgoodRose (i : SlotId) (s : State) : Outcome State Fault Refusal :=
  .next ((s.modLines i fun v => { v with pgood := .high }).line (Work.pgoodRose i))

/-- PGOOD_FELL (R24, R47, R57, R134). -/
def execPgoodFell (i : SlotId) (s : State) : Outcome State Fault Refusal :=
  .next ((s.modLines i fun v => { v with pgood := .low }).line (Work.pgoodFell i))

/-- FAULT_ASSERTED (R24): the falling edge of FLT_L; its rising edge is no event. -/
def execFaultAsserted (i : SlotId) (level : Level) (s : State) : Outcome State Fault Refusal :=
  .next ((s.modLines i fun v => { v with fltL := level }).line fun w =>
    if level = .low then w.faultAsserted i else w)

/-- NOTIFY asserted reaches a slot's engine (R85): considered in the conversing states. -/
def Work.notified (i : SlotId) (w : Work) : Work :=
  if (w.st.stateOf i).conversing then w.on (State.modChan i Channel.raiseNotice) else w

/-- NOTIFY_ASSERTED (R25, R85): the falling edge of NTFY_L; its rising edge is no event. -/
def execNotifyAsserted (i : SlotId) (level : Level) (s : State) : Outcome State Fault Refusal :=
  .next ((s.modLines i fun v => { v with ntfyL := level }).line fun w =>
    if level = .low then w.notified i else w)

/-- SUPPLY_LOW_EDGE (R26). -/
def execSupplyLowEdge (level : Level) (s : State) : Outcome State Fault Refusal :=
  .next ((s.modShelf fun v => { v with supplyLow := level }).line fun w =>
    w.on (State.modShelf fun v => { v with supplySettle := some Config.supplySettle }))

end Sys2Proof.Machine
end

