-- ==== Sys2Proof/Machine/Reads.lean ====
section
/-! DEFINITION. The meanings of the transactions that change nothing outside the ports: short frames, unknown codes, NONE
and the read commands (R16, R79, R110, R133, R155, R157, R158, R164). -/

namespace Sys2Proof.Machine

open Sys2Proof Host

/-- SHORT_FRAME (R158, R159). -/
def execShortFrame (l : Link) (clocked : Nat) (s : State) : Outcome State Fault Refusal :=
  .next (s.shortFetch l clocked)

/-- UNKNOWN_COMMAND (R158 step 2). -/
def execUnknownCommand (code : Byte) (f : Frame) (s : State) : Outcome State Fault Refusal :=
  .next (s.accept code .fetch (Work.refuse .unknownCommand) f)

/-- NONE (R157): accepted, and no response of its own. -/
def execNoneFrame (f : Frame) (s : State) : Outcome State Fault Refusal :=
  .next (s.accept 0x00 .fetch (fun w => { work := w, reply := none }) f)

/-- READ_SLOT (R16). -/
def execReadSlot (f : Frame) (s : State) : Outcome State Fault Refusal :=
  .next (s.accept 0x01 .read (fun w =>
    match frameSlot f with
    | none => w.refuse .badSlot
    | some i => w.answer (.ok (slotData i))) f)

/-- READ_LINKS (R110). -/
def execReadLinks (f : Frame) (s : State) : Outcome State Fault Refusal :=
  .next (s.accept 0x02 .read (fun w =>
    if forShelf f then w.answer (.ok (linksData none))
    else
      match frameSlot f with
      | none => w.refuse .badSlot
      | some i => w.answer (.ok (linksData (some i)))) f)

/-- A command that carries slot 0; any other slot number is refused with BAD_SLOT. -/
def shelfOnly (f : Frame) (owner : Work → Handled) (w : Work) : Handled :=
  if forShelf f then owner w else w.refuse .badSlot

/-- A read that carries slot 0 and answers a snapshot. -/
def snapshot (data : State → List Byte) (w : Work) : Handled := w.answer (.ok data)

/-- READ_SHELF (R79). -/
def execReadShelf (f : Frame) (s : State) : Outcome State Fault Refusal :=
  .next (s.accept 0x03 .read (shelfOnly f (snapshot shelfData)) f)

/-- READ_QUEUES (R79). -/
def execReadQueues (f : Frame) (s : State) : Outcome State Fault Refusal :=
  .next (s.accept 0x04 .read (shelfOnly f (snapshot queuesData)) f)

/-- READ_BATCH (R133). -/
def execReadBatch (f : Frame) (s : State) : Outcome State Fault Refusal :=
  .next (s.accept 0x05 .read (shelfOnly f (snapshot batchData)) f)

/-- READ_PENDING (R155). -/
def execReadPending (f : Frame) (s : State) : Outcome State Fault Refusal :=
  .next (s.accept 0x06 .read (shelfOnly f (snapshot pendingData)) f)

/-- READ_EPISODE (R164). -/
def execReadEpisode (f : Frame) (s : State) : Outcome State Fault Refusal :=
  .next (s.accept 0x07 .read (shelfOnly f (snapshot episodeData)) f)

end Sys2Proof.Machine
end

