-- ==== Sys2Proof/Machine/Recovery.lean ====
section
/-! DEFINITION. The three kinds of reset (chapter 11): power-on, the restart's two halves (R169) with the Recovery
Scanner's classification (R170), the rebuild (R173) and the postings (R174), and the link reset's service state (R166). -/

namespace Sys2Proof.Machine

open Sys2Proof

/-! ## Power-on -/

/-- A slot at power-on: every default, with the input lines as the outside drives them and the debounce started where
PRES_L is low (R17, R27, R33, R81; log entry 25). -/
def Slot.powerOn (x : Slot) : Slot :=
  { Slot.initial with
    lines := x.lines
    cond := { Slot.initial.cond with
      debounce := if x.lines.presL = .low then some Policy.default.presenceDebounce else none } }

/-- The part at power-on. What the outside drives (input lines, REFCLK, the LRST lines) is as it was, and so are the
model's own fields. -/
def State.powerOn (s : State) : State :=
  { slots := Vector.ofFn fun i => (s.slot i).powerOn
    links := []
    settings := ShelfSettings.default
    power := PowerAccounts.initial
    batch := Batch.initial
    attention := Attention.initial
    portA := Port.initial s.portA.inReset
    portB := Port.initial s.portB.inReset
    episode := Episode.initial
    elapsed := 0
    shelf := { ShelfLines.initial with supplyLow := s.shelf.supplyLow, refclk := s.shelf.refclk }
    coincidences := s.coincidences
    pending := s.pending }

/-! ## The start of a restart -/

/-- Every timer of a slot cancelled, its transfer abandoned and its blink held steady (R33, R169). -/
def Slot.halt (x : Slot) : Slot :=
  { x with
    record := { x.record with phaseTimer := none }
    cond := { x.cond with debounce := none, loss := none, handle := none }
    out := { x.out with blink := none }
    chan := { x.chan with transfer := none, pause := none } }

/-- A port's timers cancelled and its response discarded (R169). -/
def Port.halt (p : Port) : Port := { p with supervision := none, held := none, holdoff := none }

/-- A restart begins (R169): timers and transfers end, outputs keep their levels, ATTN goes OFF, responses go. -/
def State.halt (s : State) : State :=
  { s with
    slots := Vector.ofFn fun i => (s.slot i).halt
    links := s.links.map fun e => { e with settle := none }
    batch := { s.batch with window := none }
    attention := { s.attention with attnA := false, attnB := false }
    portA := s.portA.halt
    portB := s.portB.halt
    shelf := { s.shelf with supplySettle := none, inReset := true } }

/-! ## The scan -/

/-- A slot before classification: record cleared but for its policy, inputs sampled, engine idle, outputs held (R18, R27,
R81, R169). -/
def Slot.restartValues (x : Slot) : Slot :=
  { x with
    record := { SlotRecord.initial x.record.policy with
      handleClosed := handleMeansClosed x.record.policy.openPolarity x.lines.hdl }
    cond := { present := x.lines.presL == .low, debounce := none, loss := none, handle := none }
    chan := Channel.idle }

/-- Every block at its restart values, slots not yet classified (R80, R117, R156, R167, R169). -/
def State.restartValues (s : State) : State :=
  { s with
    slots := Vector.ofFn fun i => (s.slot i).restartValues
    power := PowerAccounts.initial
    batch := Batch.initial
    attention := { Attention.initial with levels := s.attention.levels }
    portA := Port.initial s.portA.inReset
    portB := Port.initial s.portB.inReset
    episode := Episode.initial
    elapsed := 0
    shelf := { s.shelf with supplyAsserted := s.shelf.supplyLow == .high, supplySettle := none, inReset := false } }

/-- The state the scanner gives a slot (R170). -/
def Slot.classified (x : Slot) : SlotState :=
  if x.record.policy.role = .unused ∨ x.lines.presL = .high then .empty
  else if x.out.preEn || !x.out.mainEn then .settling
  else if x.lines.pgood = .low then .faulted
  else .recovering

/-- A slot enters the state the scanner gives it (R170). -/
def State.classify (s : State) (i : SlotId) : State :=
  let x := s.slot i
  let evidence := s.laneEvidenceOf i
  match x.classified with
  | .empty => s.enter i .empty none
  | .settling =>
    (s.enter i .settling none).modCond i fun c => { c with debounce := some x.record.policy.presenceDebounce }
  | .faulted => s.enter i .faulted (some .runFault)
  | _ =>
    (((s.modChan i fun c => { c with identityDue := true }).enter i .recovering none).modRecord i fun r =>
      { r with adopted := true, laneEvidence := evidence }).modChan i Channel.askIdentity

/-- POWER_FAULT (RUN) for a slot classified FAULTED (R174). -/
def Work.postClassified (w : Work) (i : SlotId) : Work :=
  if w.st.stateOf i = .faulted then w.postFault i .powerFault (.fault .run) else w

/-- The restart proceeds: classification, rebuild and postings as one event (R169 to R174). -/
def Work.restart (cause : RestartCause) (w : Work) : Work :=
  let w := w.on fun s =>
    ((allSlots.foldl State.classify s.restartValues).restartLinks).postShelf .restarted (.restarted cause)
  allSlots.foldl Work.postClassified w

end Sys2Proof.Machine
end

