-- ==== Sys2Proof/Machine/LinkCommands.lean ====
section
/-! DEFINITION. The meanings of the commands about events, links and the part: NEXT_ATTENTION, SERVICE_DONE, HOLDOFF (R151
to R153), TAKEOVER, RELEASE, ACK_EPISODE (R162, R163, R165) and RESTART (R167). -/

namespace Sys2Proof.Machine

open Sys2Proof Host

/-- The delivery of an event to a link (R151). -/
def State.deliver (l : Link) (k : EventKey) (level : Nat) (s : State) : State :=
  ({ s with attention := s.attention.modEntry k PendingEntry.taken }.modPort l fun p =>
    { p with stack := p.stack ++ [p.level], level := level }).judge

/-- A delivered event (section 12.3). -/
def deliveredData (t : Attention) (k : EventKey) (l : Link) (s : State) : List Byte :=
  [byte k.slotNumber, byte k.eventClass.code, byte (t.levelOf k)] ++ detailBytes (t.entry k).detail
    ++ [flag (t.entry k).repeated, byte (s.port l).stack.length]

/-- NEXT_ATTENTION at the Attention Controller (R151). -/
def nextAttentionOwner (l : Link) (w : Work) : Handled :=
  let t := w.st.attention
  if Config.stackMax ≤ (w.st.port l).stack.length then w.refuse .stackFull
  else
    match selectEvent t (w.st.port l) with
    | none => w.refuse .nothingPending
    | some k => (w.on (State.deliver l k (t.levelOf k))).answer (.ok (deliveredData t k l))

/-- NEXT_ATTENTION (R151). -/
def execNextAttention (f : Frame) (s : State) : Outcome State Fault Refusal :=
  .next (s.accept 0x1D .change (shelfOnly f (nextAttentionOwner f.link)) f)

/-- Pop the top of a link's stack and make it the current level (R152). -/
def Port.pop (p : Port) : Port := { p with level := p.stack.getLastD 0, stack := p.stack.dropLast }

/-- SERVICE_DONE at the Attention Controller (R152). -/
def serviceDoneOwner (l : Link) (w : Work) : Handled :=
  if (w.st.port l).stack.isEmpty then w.refuse .wrongState
  else
    (w.on fun s => (s.modPort l Port.pop).judge).answer
      (.ok fun s => [byte (s.port l).level, byte (s.port l).stack.length])

/-- SERVICE_DONE (R152). -/
def execServiceDone (f : Frame) (s : State) : Outcome State Fault Refusal :=
  .next (s.accept 0x1E .change (shelfOnly f (serviceDoneOwner f.link)) f)

/-- HOLDOFF at the Attention Controller (R153). -/
def holdoffOwner (f : Frame) (w : Work) : Handled :=
  match holdoffOf f.params with
  | none => w.refuse .badField
  | some n =>
    let stored := min n Config.holdoffMax
    (w.on fun s =>
      (s.modPort f.link fun p => { p with holdoff := if stored = 0 then none else some stored }).judge).answer
        (.stored (stored != n) fun _ => two stored)

/-- HOLDOFF (R153). -/
def execHoldoff (f : Frame) (s : State) : Outcome State Fault Refusal :=
  .next (s.accept 0x1F .change (shelfOnly f (holdoffOwner f)) f)

/-- A link takes charge by TAKEOVER (R162): a SILENT partner becomes STANDBY. -/
def State.takeOver (l : Link) (s : State) : State :=
  (s.modPort l.other fun p => { p with role := .standby }).becomeActive l .takeover

/-- TAKEOVER at the ports (R162). -/
def takeoverOwner (l : Link) (w : Work) : Handled :=
  if (w.st.port l).role = .active then w.answer .done
  else if (w.st.port l.other).role = .active then w.refuse .wrongState
  else (w.on (State.takeOver l)).answer .done

/-- TAKEOVER (R162). -/
def execTakeover (f : Frame) (s : State) : Outcome State Fault Refusal :=
  .next (s.accept 0x20 .role (shelfOnly f (takeoverOwner f.link)) f)

/-- RELEASE at the ports (R163). -/
def releaseOwner (l : Link) (w : Work) : Handled :=
  if (w.st.port l).role = .active then (w.stopActive l .standby .release).answer .done
  else w.refuse .wrongState

/-- RELEASE (R163). -/
def execRelease (f : Frame) (s : State) : Outcome State Fault Refusal :=
  .next (s.accept 0x21 .role (shelfOnly f (releaseOwner f.link)) f)

/-- ACK_EPISODE at the ports (R165). -/
def ackEpisodeOwner (l : Link) (w : Work) : Handled :=
  if (w.st.port l).role ≠ .active then w.refuse .notActive
  else if w.st.episode.state = .open then
    (w.on fun s => { s with episode := { s.episode with state := .closed } }).answer (.ok episodeData)
  else w.refuse .wrongState

/-- ACK_EPISODE (R165). -/
def execAckEpisode (f : Frame) (s : State) : Outcome State Fault Refusal :=
  .next (s.accept 0x22 .role (shelfOnly f (ackEpisodeOwner f.link)) f)

/-- RESTART at the part (R167, R169): the restart begins and proceeds at once, and no response is formed. -/
def restartOwner (w : Work) : Handled := { work := (w.on State.halt).restart .command, reply := none }

/-- RESTART (R167). -/
def execRestart (f : Frame) (s : State) : Outcome State Fault Refusal :=
  .next (s.accept 0x30 .device (shelfOnly f restartOwner) f)

end Sys2Proof.Machine
end

