-- ==== Sys2Proof/Machine/Policies.lean ====
section
/-! DEFINITION. The meanings of the commands that write settings: SET_POLICY (R3 to R6), SET_SHELF (R60, R66, R75) and
SET_LEVEL (R146). -/

namespace Sys2Proof.Machine

open Sys2Proof Host

/-! ## SET_POLICY -/

/-- The role a frame carries. -/
def roleIn (l : List (PolicyField × Nat)) : Option Role :=
  (l.find? fun fv => fv.1 == .role).map fun fv => Role.ofCode fv.2

/-- How many other slots have the role HUB (R3 check 4). -/
def State.otherHubs (s : State) (i : SlotId) : Nat := (without i s.hubSlots).length

/-- Checks 3 and 4 of R3. -/
def State.roleRefusal (s : State) (i : SlotId) (role : Option Role) : Option Status :=
  match role with
  | none => none
  | some r =>
    if r = s.roleOf i then none
    else if !(s.stateOf i).acceptsRole then some .wrongState
    else if r = .hub ∧ 2 ≤ s.otherHubs i then some .hubLimit
    else none

/-- R4 steps 1 and 2: what a role change clears in the record. -/
def SlotRecord.forRole (r : SlotRecord) : SlotRecord :=
  { r with
    identity := none
    lastNotice := none
    reason := none
    retriesUsed := 0
    approved := false
    faultOutstanding := false
    adopted := false
    idUnverified := false
    floorApplied := false
    channelLost := false
    batchMember := false
    priorState := none }

/-- R4 step 3, R94: the engine drops its work and goes idle. -/
def Channel.forRole (c : Channel) : Channel := c.dropConversation.dropIdentity.choose

/-- R4 step 4: the state a role change moves the slot to, and the debounce of SETTLING. -/
def Work.placeForRole (i : SlotId) (w : Work) : Work :=
  if w.st.roleOf i = .unused ∨ !(w.st.slot i).cond.present then w.move i .empty none
  else
    (w.move i .settling none).on fun s =>
      s.modCond i fun c => { c with debounce := some (s.recordOf i).policy.presenceDebounce }

/-- A role change (R4); the new role is already written. -/
def Work.changeRole (i : SlotId) (w : Work) : Work :=
  ((w.on fun s => (s.modRecord i SlotRecord.forRole).modChan i Channel.forRole).placeForRole i).rebuildLinks

/-- A changed admit mode in IDENTIFIED (R6, R42): HELD to AUTO approves. -/
def Work.admitModeChanged (i : SlotId) (w : Work) : Work :=
  if w.st.stateOf i = .identified then
    (w.on fun s =>
      s.modRecord i fun r => { r with approved := r.approved || r.policy.admitMode == .auto }).testAdmission i
  else w

/-- A changed priority in QUEUED (R6, R71, R73): the queue is sorted again and the arbiter acts. -/
def Work.priorityChanged (i : SlotId) (w : Work) : Work :=
  if w.st.stateOf i = .queued then
    (w.on fun s => s.modPower fun p =>
      { p with permitQueue := insertSlot s.queuesBefore i (without i p.permitQueue) }).arbiter
  else w

/-- The fields of an accepted SET_POLICY take effect (R6), in the order of log entry 18. -/
def Work.policyWritten (i : SlotId) (old : Policy) (w : Work) : Work :=
  let new := (w.st.recordOf i).policy
  let w := if new.role = old.role then w else w.changeRole i
  let w := if new.admitMode = old.admitMode then w else w.admitModeChanged i
  let w := if new.priority = old.priority then w else w.priorityChanged i
  if new.openPolarity = old.openPolarity then w
  else w.on (State.modCond i fun c => { c with handle := some Config.handleSettle })

/-- The code of a policy field. -/
def PolicyField.code : PolicyField → Nat
  | .role => 1
  | .admitMode => 2
  | .priority => 3
  | .slotCap => 4
  | .inrushLimit => 5
  | .chargeTimeout => 6
  | .chargeRetries => 7
  | .bootDefault => 8
  | .autoRetire => 9
  | .openPolarity => 10
  | .presenceDebounce => 11
  | .presenceLoss => 12

/-- The stored values of the fields named, in frame order (R3, R176). -/
def policyData (i : SlotId) (l : List (PolicyField × Nat)) (s : State) : List Byte :=
  l.flatMap fun fv => byte fv.1.code :: two ((s.recordOf i).policy.read fv.1)

/-- An accepted SET_POLICY (R3): all fields are written together, then take effect. -/
def Work.setPolicy (i : SlotId) (l : List (PolicyField × Nat)) (w : Work) : Handled :=
  let old := (w.st.recordOf i).policy
  ((w.on (State.modRecord i fun r => { r with policy := r.policy.writeAll l })).policyWritten i old).answer
    (.stored (l.any PolicyField.clamps) (policyData i l))

/-- The owner's checks of SET_POLICY (R3). -/
def setPolicyOwner (f : Frame) (w : Work) : Handled :=
  match frameSlot f with
  | none => w.refuse .badSlot
  | some i =>
    match policyFields f.params with
    | none => w.refuse .badField
    | some l =>
      match w.st.roleRefusal i (roleIn l) with
      | some st => w.refuse st
      | none => w.setPolicy i l

/-- SET_POLICY (R3). -/
def execSetPolicy (f : Frame) (s : State) : Outcome State Fault Refusal :=
  .next (s.accept 0x10 .change (setPolicyOwner f) f)

/-! ## SET_SHELF -/

/-- The new budget takes effect (R66). -/
def Work.budgetWritten (old : Nat) (w : Work) : Work :=
  let new := w.st.settings.budget
  if new < w.st.power.sumOfGrants then w.on State.setDeficit
  else if w.st.power.deficit then (w.on State.clearDeficit).testHead false
  else if old < new then w.testHead false
  else w

/-- The new permit limit takes effect (R75). -/
def Work.limitWritten (old : Nat) (w : Work) : Work := if old < w.st.settings.permitLimit then w.arbiter else w

/-- The code of a shelf setting. -/
def ShelfField.code : ShelfField → Nat
  | .budget => 1
  | .margin => 2
  | .floor => 3
  | .permitLimit => 4
  | .laneSettle => 5
  | .drainDeadline => 6
  | .powerOffTime => 7
  | .gatherWindow => 8
  | .supervisionTime => 9

/-- The stored values of the settings named, in frame order (R60, R176). -/
def settingsData (l : List (ShelfField × Nat)) (s : State) : List Byte :=
  l.flatMap fun fv => byte fv.1.code :: two (s.settings.read fv.1)

/-- The frame names a setting. -/
def names (f : ShelfField) (l : List (ShelfField × Nat)) : Bool := l.any fun fv => fv.1 == f

/-- An accepted SET_SHELF (R60): all settings are written together, then the budget and the permit limit act. -/
def Work.setShelf (l : List (ShelfField × Nat)) (w : Work) : Handled :=
  let old := w.st.settings
  let w := w.on fun s => { s with settings := s.settings.writeAll l }
  let w := if names .budget l then w.budgetWritten old.budget else w
  let w := if names .permitLimit l then w.limitWritten old.permitLimit else w
  w.answer (.stored (l.any ShelfField.clamps) (settingsData l))

/-- The owner's checks of SET_SHELF (R60). -/
def setShelfOwner (f : Frame) (w : Work) : Handled :=
  match shelfFields f.params with
  | none => w.refuse .badField
  | some l => w.setShelf l

/-- SET_SHELF (R60). -/
def execSetShelf (f : Frame) (s : State) : Outcome State Fault Refusal :=
  .next (s.accept 0x11 .change (shelfOnly f (setShelfOwner f)) f)

/-! ## SET_LEVEL -/

/-- The pairs of a SET_LEVEL frame as stored (R146, R176). -/
def levelData (l : List (EventClass × Nat)) (s : State) : List Byte :=
  l.flatMap fun cn => [byte cn.1.code, byte (s.attention.levels.level cn.1)]

/-- An accepted SET_LEVEL (R146). -/
def Work.setLevel (l : List (EventClass × Nat)) (w : Work) : Handled :=
  (w.on fun s => { s with attention := { s.attention with levels := s.attention.levels.writeAll l } }.judge).answer
    (.stored (l.any fun cn => decide (7 < cn.2)) (levelData l))

/-- The owner's checks of SET_LEVEL (R146). -/
def setLevelOwner (f : Frame) (w : Work) : Handled :=
  match levelPairs f.params with
  | none => w.refuse .badField
  | some l => w.setLevel l

/-- SET_LEVEL (R146). -/
def execSetLevel (f : Frame) (s : State) : Outcome State Fault Refusal :=
  .next (s.accept 0x12 .change (shelfOnly f (setLevelOwner f)) f)

end Sys2Proof.Machine
end

