-- ==== Sys2Proof/Machine/Resets.lean ====
section
/-! DEFINITION. The meanings of the reset and clock commands. -/

namespace Sys2Proof.Machine

open Sys2Proof Host

/-- POWER_ON (R17, R27, R33, R80, R81, R111, R117, R156, R167). -/
def execPowerOn (s : State) : Outcome State Fault Refusal := .next s.powerOn

/-- RESET_L_ASSERTED (R34, R169). -/
def execResetLAsserted (s : State) : Outcome State Fault Refusal :=
  .next (if s.shelf.inReset then s else s.halt)

/-- RESET_L_RELEASED (R169 to R174). -/
def execResetLReleased (s : State) : Outcome State Fault Refusal :=
  .next (if s.shelf.inReset then s.run (Work.restart .resetLine) else s)

/-- The reset of a port (R166). -/
def Work.linkReset (l : Link) (w : Work) : Work :=
  let wasActive := (w.st.port l).role == .active
  let w := w.on (State.modPort l fun p => { p with held := none, inReset := true })
  if wasActive then w.stopActive l .standby .reset
  else w.on fun s => (s.modPort l fun p => { p.clearService with role := .standby, supervision := none }).judge

/-- LRST_ASSERTED (R166). During a restart the line's level is kept, and the restart sets the port (log entry 20). -/
def execLrstAsserted (l : Link) (s : State) : Outcome State Fault Refusal :=
  .next (if s.shelf.inReset then s.modPort l fun p => { p with inReset := true } else s.run (Work.linkReset l))

/-- LRST_RELEASED (R166). -/
def execLrstReleased (l : Link) (s : State) : Outcome State Fault Refusal :=
  .next (s.modPort l fun p => { p with inReset := false })

/-- REFCLK_LOSS (R19). -/
def execRefclkLoss (s : State) : Outcome State Fault Refusal :=
  .next (s.modShelf fun v => { v with refclk := false })

/-- REFCLK_RETURN (R19). -/
def execRefclkReturn (s : State) : Outcome State Fault Refusal :=
  .next (s.modShelf fun v => { v with refclk := true })

end Sys2Proof.Machine
end

