-- ==== Sys2Proof/Machine/SlotCommands.lean ====
section
/-! DEFINITION. The meanings of the commands on one slot and on the batch: ADMIT, DENY_ADMIT (R43), RETIRE_ADD (R118),
DENY_RETIRE (R115), BATCH_HOLD, BATCH_RESUME, BATCH_ABANDON, CLEAR_BATCH_FAULT (R128 to R131), CLEAR_SLOT (R142) and
THAW (R78). -/

namespace Sys2Proof.Machine

open Sys2Proof Host

/-- A command that names a slot from 1 to 16; any other slot number is refused with BAD_SLOT. -/
def oneSlot (f : Frame) (owner : SlotId → Work → Handled) (w : Work) : Handled :=
  match frameSlot f with
  | none => w.refuse .badSlot
  | some i => owner i w

/-- The slot's state code as data (R176). -/
def stateData (i : SlotId) (s : State) : List Byte := [byte (s.stateOf i).code]

/-- The batch state as data (R176). -/
def batchStateData (s : State) : List Byte := [byte s.batch.state.code]

/-- ADMIT at the Sequencer (R43). -/
def admitOwner (i : SlotId) (w : Work) : Handled :=
  if w.st.stateOf i ≠ .identified then w.refuse .wrongState
  else if (w.st.recordOf i).policy.admitMode = .auto then w.answer (.ok (stateData i))
  else
    ((w.on (State.modRecord i fun r => { r with approved := true })).testAdmission i).answer (.ok (stateData i))

/-- ADMIT (R43). -/
def execAdmit (f : Frame) (s : State) : Outcome State Fault Refusal :=
  .next (s.accept 0x13 .change (oneSlot f admitOwner) f)

/-- DENY_ADMIT at the Sequencer (R43). -/
def denyAdmitOwner (i : SlotId) (w : Work) : Handled :=
  if w.st.stateOf i ≠ .identified then w.refuse .wrongState
  else (w.toRejected i .denied).answer (.ok (stateData i))

/-- DENY_ADMIT (R43). -/
def execDenyAdmit (f : Frame) (s : State) : Outcome State Fault Refusal :=
  .next (s.accept 0x14 .change (oneSlot f denyAdmitOwner) f)

/-- Checks 3 to 5 of R118. -/
def State.addRefusal (s : State) (i : SlotId) : Option Status :=
  match s.batch.state with
  | .running => some .batchBusy
  | .holding => some .batchBusy
  | .abandoning => some .batchBusy
  | .doneFault => some .batchFaulted
  | st =>
    if st = .gathering ∧ (s.memberOf i).isSome then some .duplicate
    else
      match s.stateOf i with
      | .inService => none
      | .powered => none
      | .retirePending => none
      | _ => some .wrongState

/-- RETIRE_ADD at the Batch Engine (R118). -/
def retireAddOwner (f : Frame) (i : SlotId) (w : Work) : Handled :=
  match forceOf f.params with
  | none => w.refuse .badField
  | some force =>
    match w.st.addRefusal i with
    | some st => w.refuse st
    | none =>
      (w.on (State.batchAdd i force)).answer
        (.ok fun s => batchStateData s ++ [byte s.batch.members.length])

/-- RETIRE_ADD (R118). -/
def execRetireAdd (f : Frame) (s : State) : Outcome State Fault Refusal :=
  .next (s.accept 0x15 .change (oneSlot f (retireAddOwner f)) f)

/-- DENY_RETIRE at the Sequencer (R115). -/
def denyRetireOwner (i : SlotId) (w : Work) : Handled :=
  if w.st.stateOf i = .retirePending ∧ !(w.st.recordOf i).batchMember then
    (w.denyRequest i).answer (.ok (stateData i))
  else w.refuse .wrongState

/-- DENY_RETIRE (R115). -/
def execDenyRetire (f : Frame) (s : State) : Outcome State Fault Refusal :=
  .next (s.accept 0x16 .change (oneSlot f denyRetireOwner) f)

/-- Pause, or let run, the drain deadline of every slot in DRAINING (R128, R129). -/
def SlotRecord.pause (held : Bool) (r : SlotRecord) : SlotRecord :=
  if r.state = .draining then { r with phasePaused := held } else r

/-- BATCH_HOLD at the Batch Engine (R128). -/
def batchHoldOwner (w : Work) : Handled :=
  match w.st.batch.state with
  | .gathering =>
    (w.on (State.modBatch fun b => { b with state := .holding, window := none })).answer (.ok batchStateData)
  | .running =>
    (w.on fun s =>
      (s.modBatch fun b => { b with state := .holding }).mapSlots fun _ x =>
        { x with record := x.record.pause true }).answer (.ok batchStateData)
  | _ => w.refuse .wrongState

/-- BATCH_HOLD (R128). -/
def execBatchHold (f : Frame) (s : State) : Outcome State Fault Refusal :=
  .next (s.accept 0x17 .change (shelfOnly f batchHoldOwner) f)

/-- R129 for one member: started if it has not been, else its deadline runs on and a drained slot goes to ISOLATING. -/
def Work.resumeMember (w : Work) (i : SlotId) : Work :=
  match w.st.memberOf i with
  | none => w
  | some m =>
    if !m.started && m.outcome.isNone then w.startMember i
    else if w.st.stateOf i = .draining then
      let w := w.on (State.modRecord i (SlotRecord.pause false))
      if w.st.isDrained i then w.drained i else w
    else w

/-- BATCH_RESUME at the Batch Engine (R129). -/
def batchResumeOwner (w : Work) : Handled :=
  if w.st.batch.state = .holding then
    let slots := w.st.batch.members.map (·.slot)
    let w := w.on (State.modBatch fun b => { b with state := .running })
    (slots.foldl Work.resumeMember w).batchEnd.answer (.ok batchStateData)
  else w.refuse .wrongState

/-- BATCH_RESUME (R129). -/
def execBatchResume (f : Frame) (s : State) : Outcome State Fault Refusal :=
  .next (s.accept 0x18 .change (shelfOnly f batchResumeOwner) f)

/-- A gathered member is taken off the list (R130). -/
def State.ungather (s : State) (i : SlotId) : State :=
  if (s.recordOf i).batchMember then s.clearMemberFlag i else s

/-- R130 for one member of a RUNNING or HOLDING batch. -/
def Work.abandonMember (w : Work) (i : SlotId) : Work :=
  match w.st.memberOf i with
  | none => w
  | some m =>
    if w.st.stateOf i = .draining then w.sendBack i .abandoned
    else if !m.started && m.outcome.isNone then w.on (State.giveOutcome i .abandoned)
    else w

/-- BATCH_ABANDON at the Batch Engine (R130). -/
def batchAbandonOwner (w : Work) : Handled :=
  let slots := w.st.batch.members.map (·.slot)
  match w.st.batch.state with
  | .gathering =>
    ((w.on fun s => slots.foldl State.ungather (s.modBatch fun _ => Batch.initial)).hand [.considerAll]).answer
      (.ok batchStateData)
  | .running | .holding =>
    let w := slots.foldl Work.abandonMember w
    ((w.on (State.modBatch fun b => { b with state := .abandoning })).batchEnd).answer (.ok batchStateData)
  | _ => w.refuse .wrongState

/-- BATCH_ABANDON (R130). -/
def execBatchAbandon (f : Frame) (s : State) : Outcome State Fault Refusal :=
  .next (s.accept 0x19 .change (shelfOnly f batchAbandonOwner) f)

/-- CLEAR_BATCH_FAULT at the Batch Engine (R131, R132). -/
def clearBatchFaultOwner (w : Work) : Handled :=
  if w.st.batch.state = .doneFault then
    ((w.on (State.modBatch fun b => { b with state := .idle })).hand [.considerAll]).answer (.ok batchStateData)
  else w.refuse .wrongState

/-- CLEAR_BATCH_FAULT (R131). -/
def execClearBatchFault (f : Frame) (s : State) : Outcome State Fault Refusal :=
  .next (s.accept 0x1A .change (shelfOnly f clearBatchFaultOwner) f)

/-- Clear the fault outstanding flag (R142). -/
def State.clearFault (i : SlotId) (s : State) : State := s.modRecord i fun r => { r with faultOutstanding := false }

/-- A FAULTED or REJECTED slot goes to SETTLING for a full re-identification (R142). -/
def Work.reidentify (i : SlotId) (w : Work) : Work :=
  (w.move i .settling none).on fun s =>
    (s.clearFault i).modCond i fun c => { c with debounce := some (s.recordOf i).policy.presenceDebounce }

/-- CLEAR_SLOT at the Sequencer (R142). -/
def clearSlotOwner (i : SlotId) (w : Work) : Handled :=
  match w.st.stateOf i with
  | .faulted => (w.reidentify i).answer (.ok (stateData i))
  | .rejected => (w.reidentify i).answer (.ok (stateData i))
  | .stuck =>
    if (w.st.slot i).lines.pgood = .low then
      ((w.move i .vacantReady none).on (State.clearFault i)).answer (.ok (stateData i))
    else w.refuse .stillPowered
  | _ => w.refuse .wrongState

/-- CLEAR_SLOT (R142). -/
def execClearSlot (f : Frame) (s : State) : Outcome State Fault Refusal :=
  .next (s.accept 0x1B .change (oneSlot f clearSlotOwner) f)

/-- THAW at the PAU (R78). -/
def thawOwner (w : Work) : Handled :=
  if w.st.power.freeze then
    ((w.on (State.modPower fun p => { p with freeze := false })).arbiter).answer .done
  else w.refuse .wrongState

/-- THAW (R78). -/
def execThaw (f : Frame) (s : State) : Outcome State Fault Refusal :=
  .next (s.accept 0x1C .change (shelfOnly f thawOwner) f)

end Sys2Proof.Machine
end

