-- ==== Sys2Proof/Machine/Dispatch.lean ====
section
/-! DEFINITION. `exec`: the meaning of each command. -/

namespace Sys2Proof.Machine

open Sys2Proof

/-- The effect of a command on everything but the queue. -/
def exec (i : Instr) (s : State) : Host.Outcome State Fault Refusal :=
  match i with
  | .powerOn => Sys2Proof.Machine.execPowerOn s
  | .resetLAsserted => Sys2Proof.Machine.execResetLAsserted s
  | .resetLReleased => Sys2Proof.Machine.execResetLReleased s
  | .lrstAsserted link => Sys2Proof.Machine.execLrstAsserted link s
  | .lrstReleased link => Sys2Proof.Machine.execLrstReleased link s
  | .refclkLoss => Sys2Proof.Machine.execRefclkLoss s
  | .refclkReturn => Sys2Proof.Machine.execRefclkReturn s
  | .presenceEdge slot level => Sys2Proof.Machine.execPresenceEdge slot level s
  | .presenceSettled slot => Sys2Proof.Machine.execPresenceSettled slot s
  | .presenceLost slot => Sys2Proof.Machine.execPresenceLost slot s
  | .handleEdge slot level => Sys2Proof.Machine.execHandleEdge slot level s
  | .handleSettleExpiry slot => Sys2Proof.Machine.execHandleSettleExpiry slot s
  | .pgoodRose slot => Sys2Proof.Machine.execPgoodRose slot s
  | .pgoodFell slot => Sys2Proof.Machine.execPgoodFell slot s
  | .faultAsserted slot level => Sys2Proof.Machine.execFaultAsserted slot level s
  | .notifyAsserted slot level => Sys2Proof.Machine.execNotifyAsserted slot level s
  | .supplyLowEdge level => Sys2Proof.Machine.execSupplyLowEdge level s
  | .supplyLowSettleExpiry => Sys2Proof.Machine.execSupplyLowSettleExpiry s
  | .chargeTimeout slot => Sys2Proof.Machine.execChargeTimeout slot s
  | .coolDownExpiry slot => Sys2Proof.Machine.execCoolDownExpiry slot s
  | .stabilizeTimeExpiry slot => Sys2Proof.Machine.execStabilizeTimeExpiry slot s
  | .bootTimeout slot => Sys2Proof.Machine.execBootTimeout slot s
  | .powerOffTimerExpiry slot => Sys2Proof.Machine.execPowerOffTimerExpiry slot s
  | .drainDeadlineExpiry slot => Sys2Proof.Machine.execDrainDeadlineExpiry slot s
  | .isolatingLaneSettleExpiry slot => Sys2Proof.Machine.execIsolatingLaneSettleExpiry slot s
  | .entryLaneSettleExpiry payload hub => Sys2Proof.Machine.execEntryLaneSettleExpiry payload hub s
  | .gatherWindowExpiry => Sys2Proof.Machine.execGatherWindowExpiry s
  | .channelLostPauseExpiry slot => Sys2Proof.Machine.execChannelLostPauseExpiry slot s
  | .holdoffExpiry link => Sys2Proof.Machine.execHoldoffExpiry link s
  | .supervisionExpiry link => Sys2Proof.Machine.execSupervisionExpiry link s
  | .ledBlinkToggle slot => Sys2Proof.Machine.execLedBlinkToggle slot s
  | .identityReadComplete slot block => Sys2Proof.Machine.execIdentityReadComplete slot block s
  | .noticeReadComplete slot code arg => Sys2Proof.Machine.execNoticeReadComplete slot code arg s
  | .cueWriteComplete slot => Sys2Proof.Machine.execCueWriteComplete slot s
  | .noAnswer slot => Sys2Proof.Machine.execNoAnswer slot s
  | .shortFrame link clocked => Sys2Proof.Machine.execShortFrame link clocked s
  | .unknownCommand code f => Sys2Proof.Machine.execUnknownCommand code f s
  | .noneFrame f => Sys2Proof.Machine.execNoneFrame f s
  | .readSlot f => Sys2Proof.Machine.execReadSlot f s
  | .readLinks f => Sys2Proof.Machine.execReadLinks f s
  | .readShelf f => Sys2Proof.Machine.execReadShelf f s
  | .readQueues f => Sys2Proof.Machine.execReadQueues f s
  | .readBatch f => Sys2Proof.Machine.execReadBatch f s
  | .readPending f => Sys2Proof.Machine.execReadPending f s
  | .readEpisode f => Sys2Proof.Machine.execReadEpisode f s
  | .setPolicy f => Sys2Proof.Machine.execSetPolicy f s
  | .setShelf f => Sys2Proof.Machine.execSetShelf f s
  | .setLevel f => Sys2Proof.Machine.execSetLevel f s
  | .admitSlot f => Sys2Proof.Machine.execAdmit f s
  | .denyAdmit f => Sys2Proof.Machine.execDenyAdmit f s
  | .retireAdd f => Sys2Proof.Machine.execRetireAdd f s
  | .denyRetire f => Sys2Proof.Machine.execDenyRetire f s
  | .batchHold f => Sys2Proof.Machine.execBatchHold f s
  | .batchResume f => Sys2Proof.Machine.execBatchResume f s
  | .batchAbandon f => Sys2Proof.Machine.execBatchAbandon f s
  | .clearBatchFault f => Sys2Proof.Machine.execClearBatchFault f s
  | .clearSlot f => Sys2Proof.Machine.execClearSlot f s
  | .thaw f => Sys2Proof.Machine.execThaw f s
  | .nextAttention f => Sys2Proof.Machine.execNextAttention f s
  | .serviceDone f => Sys2Proof.Machine.execServiceDone f s
  | .holdoff f => Sys2Proof.Machine.execHoldoff f s
  | .takeover f => Sys2Proof.Machine.execTakeover f s
  | .release f => Sys2Proof.Machine.execRelease f s
  | .ackEpisode f => Sys2Proof.Machine.execAckEpisode f s
  | .restart f => Sys2Proof.Machine.execRestart f s

end Sys2Proof.Machine
end

