-- ==== Sys2Proof/Machine/TimeBase.lean ====
section
/-! DEFINITION. What the part does when no command waits (log entry 2): it takes an expiry that is due, else one 1 ms step
of the time base passes (R19, R164). -/

namespace Sys2Proof.Machine

open Sys2Proof

/-- The expiry event of a slot's phase timer, by its state (R8). -/
def phaseEvent (i : SlotId) (st : SlotState) : Option Instr :=
  match st with
  | .charging => some (.chargeTimeout i)
  | .cooling => some (.coolDownExpiry i)
  | .stabilizing => some (.stabilizeTimeExpiry i)
  | .powered => some (.bootTimeout i)
  | .draining => some (.drainDeadlineExpiry i)
  | .isolating => some (.isolatingLaneSettleExpiry i)
  | .poweringDown => some (.powerOffTimerExpiry i)
  | _ => none

/-- An event whose timer has reached 0. -/
def dueIf (timer : Option Nat) (c : Instr) : List Instr := if timer = some 0 then [c] else []

/-- The expiries due at a slot. -/
def State.dueAt (s : State) (i : SlotId) : List Instr :=
  let x := s.slot i
  dueIf x.cond.debounce (.presenceSettled i) ++ dueIf x.cond.loss (.presenceLost i)
    ++ dueIf x.cond.handle (.handleSettleExpiry i)
    ++ (match phaseEvent i x.record.state with
      | some c => if x.record.phasePaused then [] else dueIf x.record.phaseTimer c
      | none => [])
    ++ dueIf x.chan.pause (.channelLostPauseExpiry i) ++ dueIf x.out.blink (.ledBlinkToggle i)

/-- The expiries due at a port. -/
def State.dueAtPort (s : State) (l : Link) : List Instr :=
  dueIf (s.port l).holdoff (.holdoffExpiry l) ++ dueIf (s.port l).supervision (.supervisionExpiry l)

/-- Every expiry that is due. -/
def State.due (s : State) : List Instr :=
  allSlots.flatMap s.dueAt ++ (s.links.flatMap fun e => dueIf e.settle (.entryLaneSettleExpiry e.payload e.hub))
    ++ dueIf s.shelf.supplySettle .supplyLowSettleExpiry ++ dueIf s.batch.window .gatherWindowExpiry
    ++ s.dueAtPort .a ++ s.dueAtPort .b

/-- A timer after one step of the time base (R19). -/
def tickTimer (t : Option Nat) : Option Nat := t.map (· - 1)

/-- A slot after one step; a paused drain deadline keeps its count (R8). -/
def Slot.tick (x : Slot) : Slot :=
  { x with
    record :=
      { x.record with
        phaseTimer := if x.record.phasePaused then x.record.phaseTimer else tickTimer x.record.phaseTimer }
    cond :=
      { x.cond with
        debounce := tickTimer x.cond.debounce, loss := tickTimer x.cond.loss, handle := tickTimer x.cond.handle }
    out := { x.out with blink := tickTimer x.out.blink }
    chan := { x.chan with pause := tickTimer x.chan.pause } }

/-- A port after one step. -/
def Port.tick (p : Port) : Port :=
  { p with supervision := tickTimer p.supervision, holdoff := tickTimer p.holdoff }

/-- The part after one step of the time base (R19); the elapsed-time count wraps (R164). -/
def State.tick (s : State) : State :=
  { s with
    slots := Vector.ofFn fun i => (s.slot i).tick
    links := s.links.map fun e => { e with settle := tickTimer e.settle }
    batch := { s.batch with window := tickTimer s.batch.window }
    portA := s.portA.tick
    portB := s.portB.tick
    elapsed := (s.elapsed + 1) % Config.elapsedModulus
    shelf := { s.shelf with supplySettle := tickTimer s.shelf.supplySettle } }

/-- The time base acts: an expiry that is due is taken, the free value choosing among several (log entry 4); with none
due, one millisecond passes. While REFCLK is absent or a restart has begun nothing happens (R19, R169). -/
def idle (s : State) : Host.Outcome State Fault Refusal :=
  if !s.shelf.refclk || s.shelf.inReset then .next s
  else
    match s.due with
    | [] => .next s.tick
    | [c] => exec c s
    | c :: d :: rest =>
      let l := c :: d :: rest
      exec (l.getD (Config.coincidence s.coincidences % l.length) c) { s with coincidences := s.coincidences + 1 }

end Sys2Proof.Machine
end

