-- ==== Sys2Proof/Safety.lean ====
section
/-! DEFINITION. The laws of the device: what the manual says is true of every state the part reaches. A run is safe where
they hold. -/

namespace Sys2Proof.Safety

open Sys2Proof Machine

/-- R28, R30, R31: a slot's enables, its LED pattern and (outside CHARGING, whose code is fixed on entry) its ILIM code
are those of its state. -/
def OutputsFollow (s : State) : Prop :=
  ∀ i : SlotId,
    (s.slot i).out.preEn = (s.stateOf i).preEnOn ∧
    (s.slot i).out.mainEn = (s.stateOf i).mainEnOn ∧
    (s.stateOf i ≠ .charging → (s.slot i).out.ilim = if (s.stateOf i).mainEnOn then 15 else 0) ∧
    (s.slot i).out.led = (s.stateOf i).ledPattern

/-- R32, R98: a lane enable is ON exactly while its entry is JOINING, JOINED, DRAIN_ASKED or DRAINED. -/
def LanesFollow (s : State) : Prop :=
  ∀ i : SlotId,
    (s.slot i).out.laneEnA = switchedOn s.links i .a ∧ (s.slot i).out.laneEnB = switchedOn s.links i .b

/-- R69, R72: a slot is on the wait list exactly in BUDGET_WAIT, in the permit queue exactly in QUEUED and among the
permit holders exactly in CHARGING, and each list holds a slot at most once. -/
def ListsFollow (s : State) : Prop :=
  s.power.waitList.Nodup ∧ s.power.permitQueue.Nodup ∧ s.power.holders.Nodup ∧
    ∀ i : SlotId,
      (i ∈ s.power.waitList ↔ s.stateOf i = .budgetWait) ∧
      (i ∈ s.power.permitQueue ↔ s.stateOf i = .queued) ∧
      (i ∈ s.power.holders ↔ s.stateOf i = .charging)

/-- R13, R63, R72: a slot has a power part exactly in BUDGET_WAIT and in the states that hold a grant, its grant is
reserved exactly in the latter, and it holds a permit exactly in CHARGING. -/
def GrantsFollow (s : State) : Prop :=
  ∀ i : SlotId,
    ((s.recordOf i).power.isSome ↔ s.stateOf i = .budgetWait ∨ (s.stateOf i).holdsGrant) ∧
    ∀ p, (s.recordOf i).power = some p →
      (p.reserved = (s.stateOf i).holdsGrant) ∧ (p.permitHeld = decide (s.stateOf i = .charging))

/-- The total of the reserved grants. -/
def reservedTotal (s : State) : Nat := (allSlots.map fun i => (s.recordOf i).reservedGrant).sum

/-- R63: S is the total of the reserved grants. -/
def SumFollows (s : State) : Prop := s.power.sumOfGrants = reservedTotal s

/-- R63, R65: the deficit flag stands exactly while S is above B. -/
def DeficitFollows (s : State) : Prop := s.power.deficit = decide (s.settings.budget < s.power.sumOfGrants)

/-- R149: the levels on a stack rise strictly up to the current level, there are at most 8, and a link that is not
ACTIVE has an empty stack, level 0 and no holdoff. -/
def PortServes (p : Port) : Prop :=
  (p.stack ++ [p.level]).Pairwise (· < ·) ∧ p.stack.length ≤ 8 ∧
    (p.role ≠ .active → p.stack = [] ∧ p.level = 0 ∧ p.holdoff = none)

/-- R149 for both links. -/
def ServiceLaw (s : State) : Prop := PortServes s.portA ∧ PortServes s.portB

/-- R160, R161, R164: at most one link is ACTIVE; a SILENT link exists only while no link is ACTIVE, there is at most
one, and an episode is then open; supervision runs only on an ACTIVE link. -/
def RolesLaw (s : State) : Prop :=
  ∀ l : Link,
    ((s.port l).role = .active → (s.port l.other).role = .standby) ∧
    ((s.port l).role = .silent → (s.port l.other).role = .standby ∧ s.episode.state = .open) ∧
    ((s.port l).role ≠ .active → (s.port l).supervision = none)

/-- R90: a cue queue holds at most one cue of each group. -/
def CueLaw (s : State) : Prop := ∀ i : SlotId, ((s.slot i).chan.cueQueue.map Cue.group).Nodup

/-- R117, R121: a slot's batch member flag is set exactly while it is on the list without an outcome, the list never
holds a slot twice, and every slot in DRAINING is a member of a RUNNING or HOLDING batch. -/
def MembersFollow (s : State) : Prop :=
  (s.batch.members.map (·.slot)).Nodup ∧
    ∀ i : SlotId,
      ((s.recordOf i).batchMember = s.openMember i) ∧
      (s.stateOf i = .draining → s.openMember i = true ∧ (s.batch.state = .running ∨ s.batch.state = .holding))

/-- R69, R71, R72: the Budget Wait List stands in the order of join stamp and slot number, the Inrush Permit Queue in the
order of priority, join stamp and slot number, and there are at most four inrush permits. -/
def OrdersLaw (s : State) : Prop :=
  s.power.waitList.Pairwise (fun i j => s.waitsBefore i j = true) ∧
    s.power.permitQueue.Pairwise (fun i j => s.queuesBefore i j = true) ∧
    s.power.holders.length ≤ 4 ∧ s.settings.permitLimit ≤ 4

/-- R90, R3: there are at most two HUB slots, a cue queue holds at most 4 cues, and a hub cue in it is a PAYLOAD slot's
and names a HUB slot. -/
def CueHubsLaw (s : State) : Prop :=
  s.hubSlots.length ≤ 2 ∧
    ∀ i : SlotId,
      (s.slot i).chan.cueQueue.length ≤ 4 ∧
      ∀ c ∈ (s.slot i).chan.cueQueue, ∀ h : SlotId, c.group = .hub h → s.roleOf i = .payload ∧ s.roleOf h = .hub

/-- R117, R121, R126: the batch and its members' flags agree; a member without an outcome is in service, powered, asking
to retire or leaving power, and a batch that is IDLE or has ended has none. -/
def MembersLaw (s : State) : Prop :=
  MembersFollow s ∧
    (∀ i : SlotId, s.openMember i = true →
      s.stateOf i ∈ [SlotState.inService, .powered, .retirePending, .draining, .isolating, .poweringDown]) ∧
    (s.batch.state ∈ [BatchState.idle, .done, .doneFault] → ∀ i : SlotId, s.openMember i = false)

/-- R154: the attention lines show what is deliverable; they are OFF while RESET_L is low (R169). -/
def AttnFollows (s : State) : Prop :=
  if s.shelf.inReset then s.attention.attnA = false ∧ s.attention.attnB = false
  else s.attention.attnA = attnLevel s .a ∧ s.attention.attnB = attnLevel s .b

/-- R20, R21: a slot in EMPTY or SETTLING runs no presence-loss filter; a slot in any other state has its filtered
presence level PRESENT and runs no debounce. -/
def PresenceLaw (s : State) : Prop :=
  ∀ i : SlotId,
    if (s.stateOf i).debounces then (s.slot i).cond.loss = none
    else (s.slot i).cond.present = true ∧ (s.slot i).cond.debounce = none

/-- R9, R11: the reason code is present exactly in REJECTED, FAULTED and STUCK, the prior state exactly in
RETIRE_PENDING. -/
def RecordLaw (s : State) : Prop :=
  ∀ i : SlotId,
    ((s.recordOf i).reason.isSome = (s.stateOf i).hasReason) ∧
    ((s.recordOf i).priorState.isSome = decide (s.stateOf i = .retirePending))

/-- The states a lane group may be switched through between (R98). -/
def carries (st : SlotState) : Bool :=
  match st with
  | .inService | .retirePending | .draining | .recovering => true
  | _ => false

/-- R98: an entry that is not OPEN has both its ends in IN_SERVICE, RETIRE_PENDING, DRAINING or RECOVERING. -/
def EndsCarry (s : State) : Prop :=
  ∀ e ∈ s.links, e.linkState.switched = true →
    carries (s.stateOf e.payload) = true ∧ carries (s.stateOf e.hubSlot) = true

/-- R98, R116, R123, R172: the ends of an entry that is not OPEN can carry it, and go on to carry it where a retirement is
denied or called off, or an adoption ends: none of them came from POWERED. -/
def CarryLaw (s : State) : Prop :=
  EndsCarry s ∧
    ∀ e ∈ s.links, e.linkState.switched = true → ∀ i : SlotId, e.touches i = true →
      (s.stateOf i = .retirePending → (s.recordOf i).priorState ≠ some .powered) ∧
      (s.stateOf i = .draining → ∀ m : Member, s.memberOf i = some m → m.returnState ≠ some .powered) ∧
      (s.stateOf i = .recovering → (s.recordOf i).laneEvidence = true)

/-- R95: the table has one entry for each pair of a PAYLOAD slot and a HUB slot, in table order, under the hub's name. -/
def TableLaw (s : State) : Prop :=
  s.links.map (fun e => (e.payload, e.hub, e.hubSlot)) =
    (s.tableFrom fun _ _ => none).map fun e => (e.payload, e.hub, e.hubSlot)

/-! ## The words of the statements -/

/-- The time base runs and events are taken: REFCLK is present and no restart has begun (R19, R169). -/
def Running (s : State) : Prop := s.shelf.refclk = true ∧ s.shelf.inReset = false

/-- No slot waits for a grant or for a permit. -/
def NoneWaiting (s : State) : Prop := s.power.waitList = [] ∧ s.power.permitQueue = []

/-- No other slot waits for a grant or for a permit. -/
def NoOtherWaits (i : SlotId) (s : State) : Prop :=
  ∀ j : SlotId, j ≠ i → j ∉ s.power.waitList ∧ j ∉ s.power.permitQueue

/-- The permit arbiter gives no permit: the freeze flag is set or SUPPLY_LOW is asserted (R72). -/
def ArbiterHeld (s : State) : Prop := s.power.freeze = true ∨ s.shelf.supplyAsserted = true

/-- Every other slot is the same. -/
def OtherSlots (i : SlotId) (s t : State) : Prop := ∀ j : SlotId, j ≠ i → t.slot j = s.slot j

/-- Settings, batch, ports, episode, count, shelf lines and the model's own fields are the same. -/
def SameShelf (s t : State) : Prop :=
  t.settings = s.settings ∧ t.batch = s.batch ∧ t.portA = s.portA ∧ t.portB = s.portB ∧ t.episode = s.episode ∧
    t.elapsed = s.elapsed ∧ t.shelf = s.shelf ∧ t.coincidences = s.coincidences ∧ t.pending = s.pending

/-- Only one slot, the power accounts and the Pending Table may differ. -/
def OnlySlot (i : SlotId) (s t : State) : Prop := OtherSlots i s t ∧ SameShelf s t ∧ t.links = s.links

/-- The power accounts with a slot on none of their lists. -/
def offLists (i : SlotId) (p : PowerAccounts) : PowerAccounts :=
  { p with
    waitList := without i p.waitList
    permitQueue := without i p.permitQueue
    holders := without i p.holders }

/-- R147: an entry has been posted with a detail; every other entry and every level is as before, and the lines show
what is deliverable (R154). -/
def OnlyPosted (k : EventKey) (d : Detail) (s t : State) : Prop :=
  t.attention.entry k = { pending := true, repeated := (s.attention.entry k).pending, detail := some d } ∧
    (∀ k' : EventKey, k' ≠ k → t.attention.entry k' = s.attention.entry k') ∧
    t.attention.levels = s.attention.levels ∧
    t.attention.attnA = attnLevel t .a ∧ t.attention.attnB = attnLevel t .b

/-- An entry has been posted with a detail; later events of the same step may have posted others. -/
def Posted (k : EventKey) (d : Detail) (s t : State) : Prop :=
  t.attention.entry k = { pending := true, repeated := (s.attention.entry k).pending, detail := some d }

/-- Every entry that touches a slot is OPEN, with nothing told and no timer. -/
def LanesOpen (i : SlotId) (t : State) : Prop :=
  ∀ e ∈ t.links, e.touches i = true → e.linkState = .open

/-- A slot's outputs: PRE_EN, MAIN_EN, the ILIM code and the LED pattern. -/
def Shows (i : SlotId) (pre main : Bool) (ilim : Nat) (led : LedPattern) (t : State) : Prop :=
  (t.slot i).out.preEn = pre ∧ (t.slot i).out.mainEn = main ∧ (t.slot i).out.ilim = ilim ∧ (t.slot i).out.led = led

/-- A slot's engine holds no work (R94). -/
def NoWork (i : SlotId) (t : State) : Prop :=
  (t.slot i).chan.transfer = none ∧ (t.slot i).chan.identityDue = false ∧ (t.slot i).chan.noticePending = false ∧
    (t.slot i).chan.cueQueue = [] ∧ (t.slot i).chan.pause = none

/-- The part of a slot's record that no move of the slot changes. -/
def KeepsRecord (i : SlotId) (s t : State) : Prop :=
  (t.recordOf i).policy = (s.recordOf i).policy ∧ (t.recordOf i).handleClosed = (s.recordOf i).handleClosed ∧
    (t.recordOf i).channelLost = (s.recordOf i).channelLost

/-- No fault, extraction or storm reaches beyond the slot: nothing else is pending that would make a storm, the slot is
no open batch member, and no slot drains. -/
def Alone (i : SlotId) (s : State) : Prop :=
  s.stormFor i = false ∧ s.openMember i = false ∧ ∀ j : SlotId, s.stateOf j ≠ .draining

/-- R143: a fault-class event of another slot is pending, so that one of this slot makes a storm. -/
def StormDue (i : SlotId) (s : State) : Prop :=
  ∃ j : SlotId, j ≠ i ∧
    ((s.attention.entry (.slot j .powerFault)).pending = true ∨
      (s.attention.entry (.slot j .surpriseExtraction)).pending = true)

/-- R143, R144, R78: the posting of slot i has made a fault storm. The freeze is set, FAULT_STORM is posted with the slot,
repeated where the freeze stood already, and where it did not every other permit holder is backed off to QUEUED with its
grant (R77). -/
def Stormed (i : SlotId) (s t : State) : Prop :=
  t.power.freeze = true ∧
    t.attention.entry (.shelf .faultStorm) =
      { pending := true
        repeated := s.power.freeze || (s.attention.entry (.shelf .faultStorm)).pending
        detail := some (.storm i) } ∧
    (s.power.freeze = false → ListsFollow s →
      t.power.holders = [] ∧
        ∀ j : SlotId, j ≠ i → s.stateOf j = .charging →
          t.stateOf j = .queued ∧ j ∈ t.power.permitQueue ∧ Shows j false false 0 .off t ∧
            (t.recordOf j).phaseTimer = none ∧ (t.recordOf j).retriesUsed = (s.recordOf j).retriesUsed ∧
            (t.recordOf j).power = (s.recordOf j).power.map fun p => { p with permitHeld := false })

/-- Every other slot keeps its record, its input lines, its filters and its power outputs; its lane enables and its cue
queue may change with the entries it shares with the slot. -/
def OthersKeep (i : SlotId) (s t : State) : Prop :=
  ∀ j : SlotId, j ≠ i →
    t.recordOf j = s.recordOf j ∧ (t.slot j).lines = (s.slot j).lines ∧ (t.slot j).cond = (s.slot j).cond ∧
      (t.slot j).out.preEn = (s.slot j).out.preEn ∧ (t.slot j).out.mainEn = (s.slot j).out.mainEn ∧
      (t.slot j).out.ilim = (s.slot j).out.ilim ∧ (t.slot j).out.led = (s.slot j).out.led

/-- The slot keeps its grant, and no permit (R74). -/
def KeepsGrant (i : SlotId) (s t : State) : Prop :=
  (t.recordOf i).power = (s.recordOf i).power.map (fun p => { p with permitHeld := false }) ∧
    t.power.sumOfGrants = s.power.sumOfGrants

/-- The slot has an inrush fault behind it (R47, R48): it is COOLING with one more retry used, or FAULTED with its grant
released when none is left. -/
def InrushFaulted (i : SlotId) (s t : State) : Prop :=
  (t.slot i).out.preEn = false ∧ (t.slot i).out.mainEn = false ∧ (t.slot i).out.ilim = 0 ∧
    Posted (.slot i .powerFault) (.fault .inrush) s t ∧ KeepsRecord i s t ∧
    (t.recordOf i).identity = (s.recordOf i).identity ∧ i ∉ t.power.holders ∧
    (if (s.recordOf i).retriesUsed < (s.recordOf i).policy.chargeRetries then
      t.stateOf i = .cooling ∧ (t.recordOf i).phaseTimer = some 500 ∧
        (t.recordOf i).retriesUsed = (s.recordOf i).retriesUsed + 1 ∧
        KeepsGrant i s t ∧ (t.slot i).out.led = .off
    else
      t.stateOf i = .faulted ∧ (t.recordOf i).reason = some .inrushFault ∧ (t.recordOf i).phaseTimer = none ∧
        (t.recordOf i).retriesUsed = (s.recordOf i).retriesUsed ∧ (t.recordOf i).power = none ∧
        (t.recordOf i).faultOutstanding = true ∧ (t.recordOf i).approved = false ∧
        t.power.sumOfGrants = s.power.sumOfGrants - (s.recordOf i).reservedGrant ∧ (t.slot i).out.led = .on)

/-- R136: entry to FAULTED. -/
def Faulted (i : SlotId) (why : ReasonCode) (s t : State) : Prop :=
  t.stateOf i = .faulted ∧ (t.recordOf i).reason = some why ∧ (t.recordOf i).phaseTimer = none ∧
    (t.recordOf i).faultOutstanding = true ∧ (t.recordOf i).approved = false ∧ (t.recordOf i).adopted = false ∧
    (t.recordOf i).priorState = none ∧ (t.recordOf i).power = none ∧ Shows i false false 0 .on t ∧ NoWork i t ∧
    (t.recordOf i).retriesUsed = (s.recordOf i).retriesUsed ∧ (t.recordOf i).identity = (s.recordOf i).identity ∧
    KeepsRecord i s t ∧ t.power.sumOfGrants = s.power.sumOfGrants - (s.recordOf i).reservedGrant

/-- Entry to VACANT_READY with RETIRED posted (R55, R57, R125). -/
def Vacated (i : SlotId) (s t : State) : Prop :=
  t.stateOf i = .vacantReady ∧ (t.recordOf i).phaseTimer = none ∧ (t.recordOf i).power = none ∧
    (t.recordOf i).approved = false ∧ (t.recordOf i).adopted = false ∧
    (t.recordOf i).identity = (s.recordOf i).identity ∧ (t.recordOf i).retriesUsed = (s.recordOf i).retriesUsed ∧
    Shows i false false 0 .on t ∧ Posted (.slot i .retired) (.retired (s.recordOf i).batchMember) s t ∧
    t.power.sumOfGrants = s.power.sumOfGrants - (s.recordOf i).reservedGrant

/-! ### The batch -/

/-- A member as RETIRE_ADD appends it (R117, R118). -/
def newMember (force : Bool) (i : SlotId) : Member :=
  { slot := i, force := force, started := false, returnState := none, outcome := none }

/-- The batch has an outcome that ends it in DONE_FAULT (R127). -/
def anyFailed (s : State) : Bool :=
  s.batch.members.any fun m =>
    m.outcome == some .stuck || m.outcome == some .faulted || m.outcome == some .drainTimeout

/-- The same, a slot's own outcome left aside. -/
def OthersFailed (i : SlotId) (s : State) : Prop :=
  ∃ m ∈ s.batch.members, m.slot ≠ i ∧ m.outcome ∈ [some .stuck, some .faulted, some .drainTimeout]

/-- The batch is in a state in which it can end, and every other member has its outcome (R127). -/
def LastOpen (i : SlotId) (s : State) : Prop :=
  s.batch.state ∈ [BatchState.running, .holding, .abandoning] ∧
    ∀ m ∈ s.batch.members, m.slot ≠ i → m.outcome.isSome = true

/-- A batch that ends with every outcome RETIRED, EXTRACTED or ABANDONED is DONE, else DONE_FAULT, and BATCH_END is posted
with that state (R127). -/
def BatchEnded (failed : Bool) (s t : State) : Prop :=
  t.batch.state = (if failed = true then .doneFault else .done) ∧
    Posted (.shelf .batchEnd) (.batchEnd failed) s t

/-- R126, R127: a member without an outcome is given this one and its flag is cleared; where no other member is without
one and the batch can end, it ends. -/
def OutcomeGiven (i : SlotId) (o : MemberOutcome) (s t : State) : Prop :=
  ∀ m : Member, s.memberOf i = some m → m.outcome = none →
    t.memberOf i = some { m with outcome := some o } ∧ (t.recordOf i).batchMember = false ∧
      (LastOpen i s →
        (o ∈ [MemberOutcome.stuck, .faulted, .drainTimeout] ∨ OthersFailed i s → BatchEnded true s t) ∧
        (o ∉ [MemberOutcome.stuck, .faulted, .drainTimeout] → ¬ OthersFailed i s → BatchEnded false s t))

/-- R127: a batch that cannot end yet stays in its state, and no BATCH_END is posted. -/
def BatchGoesOn (i : SlotId) (s t : State) : Prop :=
  ¬ LastOpen i s →
    t.batch.state = s.batch.state ∧
      t.attention.entry (.shelf .batchEnd) = s.attention.entry (.shelf .batchEnd)

/-- R132: the slots the Batch Engine adds on its own when it considers every slot in this batch state and no link is
ACTIVE, in slot order. -/
def autoSlots (b : BatchState) (s : State) : List SlotId :=
  allSlots.filter fun i =>
    s.roleOf i == .payload && s.stateOf i == .retirePending && (s.recordOf i).policy.autoRetire &&
      !(s.recordOf i).batchMember &&
      (b == .idle || b == .done || (b == .gathering && s.batch.members.all fun m => m.slot != i))

/-- R132: a slot that goes to RETIRE_PENDING now is added on its own. -/
def AutoAdds (i : SlotId) (s : State) : Prop :=
  s.anyActive = false ∧ s.roleOf i = .payload ∧ (s.recordOf i).policy.autoRetire = true ∧
    (s.recordOf i).batchMember = false ∧
    (s.batch.state ∈ [BatchState.idle, .done] ∨
      (s.batch.state = .gathering ∧ ∀ m ∈ s.batch.members, m.slot ≠ i))

/-- The batch after autonomous additions, none of them with force (R118, R132). -/
def autoBatch (l : List SlotId) (s : State) : Batch :=
  if l = [] then s.batch
  else
    { state := .gathering, window := some s.settings.gatherWindow
      members := (if s.batch.state = .gathering then s.batch.members else []) ++ l.map (newMember false) }

/-- R164: the added slots are entered in an open Episode Record, each once; nothing else of the record changes. -/
def EpisodeEnters (l : List SlotId) (e e' : Episode) : Prop :=
  e' = { e with retired := e'.retired } ∧ (e.retired.Nodup → e'.retired.Nodup) ∧
    ∀ i : SlotId, i ∈ e'.retired ↔ i ∈ e.retired ∨ (e.state = .open ∧ i ∈ l)

/-- R132, R103, R164: these slots have been added on their own, from an Episode Record as the addition found it: they are
members with their flags set and their JOINING entries OPEN. Nothing else of any slot changes but lane enables. -/
def AutoAdded (l : List SlotId) (e : Episode) (s t : State) : Prop :=
  t.batch = autoBatch l s ∧ EpisodeEnters l e t.episode ∧
    t.links = s.links.map (fun x =>
      if x.linkState == .joining && l.any x.touches then
        { x with linkState := .open, linkUp := .none, settle := none, held := false }
      else x) ∧
    ∀ i : SlotId,
      t.recordOf i = { s.recordOf i with batchMember := (s.recordOf i).batchMember || l.contains i } ∧
      (t.slot i).lines = (s.slot i).lines ∧ (t.slot i).cond = (s.slot i).cond ∧ (t.slot i).chan = (s.slot i).chan ∧
      (t.slot i).out.preEn = (s.slot i).out.preEn ∧ (t.slot i).out.mainEn = (s.slot i).out.mainEn ∧
      (t.slot i).out.ilim = (s.slot i).out.ilim ∧ (t.slot i).out.led = (s.slot i).out.led

/-- A slot's move that ends the batch as DONE starts no autonomous batch: a link is ACTIVE, or no slot waits for one. -/
def NoAutoBatch (i : SlotId) (s : State) : Prop := s.anyActive = true ∨ without i (autoSlots .done s) = []

/-- The same where no slot's move ends the batch. -/
def NoAutoAtEnd (s : State) : Prop := s.anyActive = true ∨ autoSlots .done s = []

/-- R132: a slot's outcome ends the batch as DONE while no link is ACTIVE, and slots wait to be added on their own: they
are the members of a new batch, with their flags set, and are entered in an open Episode Record (R164). -/
def AutoBatchFollows (i : SlotId) (s t : State) : Prop :=
  s.anyActive = false → s.openMember i = true → LastOpen i s → ¬ OthersFailed i s →
    without i (autoSlots .done s) ≠ [] →
    t.batch =
        { state := .gathering, window := some s.settings.gatherWindow
          members := (without i (autoSlots .done s)).map (newMember false) } ∧
      EpisodeEnters (without i (autoSlots .done s)) s.episode t.episode ∧
      (∀ j ∈ without i (autoSlots .done s), (t.recordOf j).batchMember = true) ∧
      Posted (.shelf .batchEnd) (.batchEnd false) s t

/-! ### Grant requests -/

/-- R67, R68: an identified slot has asked for this grant while the arbiter is held: it is reserved at once and the slot
is QUEUED where it fits and no other slot waits, and else the slot is in BUDGET_WAIT; either way with a new join stamp. -/
def GrantAsked (i : SlotId) (g : Nat) (s t : State) : Prop :=
  (t.recordOf i).floorApplied = (s.grantNow i).2 ∧ (t.recordOf i).phaseTimer = none ∧
    (t.recordOf i).identity = (s.recordOf i).identity ∧ Shows i false false 0 .off t ∧
    t.power.stampCounter = min 4294967295 (s.power.stampCounter + 1) ∧
    (if s.power.sumOfGrants + g ≤ s.settings.budget ∧ s.power.deficit = false ∧ s.power.waitList = [] then
      t.stateOf i = .queued ∧ i ∈ t.power.permitQueue ∧ t.power.waitList = [] ∧
        t.power.sumOfGrants = s.power.sumOfGrants + g ∧
        (t.recordOf i).power =
          some { grant := g, reserved := true, joinStamp := some s.power.stampCounter, permitHeld := false }
    else
      t.stateOf i = .budgetWait ∧ i ∈ t.power.waitList ∧
        without i t.power.waitList = without i s.power.waitList ∧ t.power.sumOfGrants = s.power.sumOfGrants ∧
        (t.recordOf i).power =
          some { grant := g, reserved := false, joinStamp := some s.power.stampCounter, permitHeld := false })

/-- A waiting slot has been let in: its grant is reserved, with its stamp kept, and it is QUEUED (R69). -/
def LetIn (j : SlotId) (p : PowerPart) (t : State) : Prop :=
  t.stateOf j = .queued ∧ (t.recordOf j).power = some { p with reserved := true, permitHeld := false } ∧
    j ∈ t.power.permitQueue ∧ t.power.waitList = []

/-- A queued slot has been given a permit: it is CHARGING with its charge timeout running (R45, R72). -/
def Permitted (j : SlotId) (p : PowerPart) (s t : State) : Prop :=
  t.stateOf j = .charging ∧ (t.recordOf j).power = some { p with permitHeld := true } ∧
    (t.recordOf j).phaseTimer = some (s.recordOf j).policy.chargeTimeout ∧ (t.slot j).out.preEn = true ∧
    t.power.permitQueue = [] ∧ j ∈ t.power.holders

/-- R64, R69, R70: slot i has released its reserved grant, or left the head of the wait list without one, and slot j is
then the head and fits the budget: j is let in. The arbiter is held, so that j waits for its permit. -/
def GrantPassedOn (i : SlotId) (s t : State) : Prop :=
  ∀ (j : SlotId) (p : PowerPart), (s.recordOf j).power = some p → j ≠ i → s.stateOf j = .budgetWait →
    without i s.power.waitList = [j] → ArbiterHeld s →
    ((s.recordOf i).power.map (·.reserved) = some true ∨
      (s.stateOf i = .budgetWait ∧ s.power.waitList.head? = some i ∧ s.power.deficit = false)) →
    s.power.sumOfGrants - (s.recordOf i).reservedGrant + p.grant ≤ s.settings.budget →
    LetIn j p t ∧ t.power.sumOfGrants = s.power.sumOfGrants - (s.recordOf i).reservedGrant + p.grant

/-- R64, R72, R74: slot i has left CHARGING without a storm, and slot j alone waits for a permit: j is given one. -/
def PermitPassedOn (i : SlotId) (s t : State) : Prop :=
  ∀ (j : SlotId) (p : PowerPart), (s.recordOf j).power = some p → j ≠ i → s.stateOf j = .queued →
    s.stateOf i = .charging → s.power.waitList = [] → without i s.power.permitQueue = [j] →
    s.power.freeze = false → s.shelf.supplyAsserted = false →
    (without i s.power.holders).length < s.settings.permitLimit → (s.recordOf j).policy.priority ≠ 0 →
    (s.slot j).lines.fltL = .high → ¬ StormDue i s → Permitted j p s t

/-! ### Frames -/

/-- The port takes the transaction as a frame (R158): no restart has begun, the port is not in reset, and every declared
byte has come. -/
def Taken (f : Frame) (s : State) : Prop :=
  s.shelf.inReset = false ∧ (s.port f.link).inReset = false ∧ f.complete = true

/-- A taken frame whose declared length a command frame may have (R157). -/
def Accepted (f : Frame) (s : State) : Prop := Taken f s ∧ f.len.toNat ≤ 12

/-- A frame the owner of a changing command is handed: from the ACTIVE link, not quarantined (R158, R164). -/
def MayChange (f : Frame) (s : State) : Prop :=
  Accepted f s ∧ (s.port f.link).role = .active ∧ s.episode.state ≠ .open

/-- The supervision timer of a link started again (R161). -/
def supervised (l : Link) (s : State) : State :=
  s.modPort l fun p => { p with supervision := some s.settings.supervisionTime }

/-- The transaction of a frame leaves part of the held response unfetched (R159). -/
def overruns (f : Frame) (p : Port) : Bool :=
  match p.held with
  | none => false
  | some r => decide (f.clocked < r.bytes.length)

/-- The port of a frame holds the response to it (R157, R159). -/
def answered (code : Byte) (f : Frame) (status : Status) (data : List Byte) (s : State) : State :=
  s.modPort f.link fun p =>
    { p with held := some { status := status, code := code, overrun := overruns f p, data := data } }

/-- Step 1 of R158 for a link that is not SILENT: an ACTIVE link's supervision starts again. -/
def counted (l : Link) (s : State) : State := if (s.port l).role = .active then supervised l s else s

/-- Step 1 of R158 in any role: a SILENT link becomes ACTIVE (R162), an ACTIVE link's supervision starts again. -/
def heard (l : Link) (s : State) : State :=
  match (s.port l).role with
  | .silent => State.becomeActive l .resumed s
  | .active => supervised l s
  | .standby => s

/-- The bytes of Link Table entries in READ_LINKS, after their count (R110, section 12.4): payload slot, hub name, hub
slot, link state, link-up, and the lane settle timer's remaining count. -/
def tableBytes (l : List LinkEntry) : List Byte :=
  [byte l.length] ++ l.flatMap fun e =>
    [byte (slotNumber e.payload), byte (hubCode e.hub), byte (slotNumber e.hubSlot), byte e.linkState.code,
      byte e.linkUp.code] ++ four (e.settle.getD 0)

/-- The bytes of the READ_SLOT snapshot (R16, the table of section 12.4), line for line. -/
def slotSnapshot (i : SlotId) (s : State) : List Byte :=
  let r := s.recordOf i
  let x := s.slot i
  [byte (slotNumber i)] ++
  [byte (r.policy.read .role), byte (r.policy.read .admitMode), byte r.policy.priority] ++ two r.policy.slotCap ++
    [byte r.policy.inrushLimit] ++ two r.policy.chargeTimeout ++ [byte r.policy.chargeRetries] ++
    two r.policy.bootDefault ++ [byte (r.policy.read .autoRetire), byte (r.policy.read .openPolarity)] ++
    two r.policy.presenceDebounce ++ [byte r.policy.presenceLoss] ++
  [byte r.state.code] ++
  four (if r.state = .settling then x.cond.debounce.getD 0 else r.phaseTimer.getD 0) ++
  [(r.reason.map fun c => byte c.code).getD 0, byte r.retriesUsed,
    bits [r.handleClosed, r.approved, r.faultOutstanding, r.adopted, r.idUnverified, r.floorApplied, r.channelLost,
      r.batchMember],
    (r.priorState.map fun p => byte p.toState.code).getD 0xFF] ++
  [flag r.identity.isSome] ++ (r.identity.map Identity.block).getD (List.replicate 32 0) ++
  (match r.power with
    | some p =>
      [bits [true, p.reserved, p.permitHeld, p.joinStamp.isSome]] ++ two p.grant ++ four (p.joinStamp.getD 0)
    | none => [0, 0, 0, 0, 0, 0, 0]) ++
  (match r.lastNotice with
    | some n => [1, n.code, n.arg]
    | none => [0, 0, 0]) ++
  [byte x.chan.cueQueue.length] ++ (x.chan.cueQueue.take 4).flatMap Cue.bytes ++
    List.replicate (8 - 2 * (x.chan.cueQueue.take 4).length) 0 ++
  [bits [x.cond.present, r.handleClosed, decide (x.lines.pgood = .high), decide (x.lines.fltL = .low), x.out.preEn,
      x.out.mainEn, x.out.laneEnA, x.out.laneEnB],
    byte x.out.ilim, byte x.out.led.code]

/-- The changing commands and RESTART, with their codes (section 12.2, R167). -/
def changeRows : List (Byte × (Frame → Instr)) :=
  [(0x10, .setPolicy), (0x11, .setShelf), (0x12, .setLevel), (0x13, .admitSlot), (0x14, .denyAdmit), (0x15, .retireAdd),
   (0x16, .denyRetire), (0x17, .batchHold), (0x18, .batchResume), (0x19, .batchAbandon), (0x1A, .clearBatchFault),
   (0x1B, .clearSlot), (0x1C, .thaw), (0x1D, .nextAttention), (0x1E, .serviceDone), (0x1F, .holdoff), (0x30, .restart)]

/-- The commands that carry slot 0, and the groups step 3 of R158 puts them in: true for a changing or device command. -/
def shelfRows : List (Bool × Byte × (Frame → Instr)) :=
  [(false, 0x03, .readShelf), (false, 0x04, .readQueues), (false, 0x05, .readBatch), (false, 0x06, .readPending),
   (false, 0x07, .readEpisode), (true, 0x11, .setShelf), (true, 0x12, .setLevel), (true, 0x17, .batchHold),
   (true, 0x18, .batchResume), (true, 0x19, .batchAbandon), (true, 0x1A, .clearBatchFault), (true, 0x1C, .thaw),
   (true, 0x1D, .nextAttention), (true, 0x1E, .serviceDone), (true, 0x1F, .holdoff), (false, 0x20, .takeover),
   (false, 0x21, .release), (false, 0x22, .ackEpisode), (true, 0x30, .restart)]

/-- The commands that name a slot from 1 to 16; true for a changing command. -/
def slotRows : List (Bool × Byte × (Frame → Instr)) :=
  [(false, 0x01, .readSlot), (true, 0x10, .setPolicy), (true, 0x13, .admitSlot), (true, 0x14, .denyAdmit),
   (true, 0x15, .retireAdd), (true, 0x16, .denyRetire), (true, 0x1B, .clearSlot)]

/-- Every command a frame carries, with its code (section 12.2). -/
def frameRows : List (Byte × (Frame → Instr)) :=
  let fetches : List (Byte × (Frame → Instr)) := [(0x00, .noneFrame), (0x01, .readSlot), (0x02, .readLinks)]
  let reads : List (Byte × (Frame → Instr)) :=
    [(0x03, .readShelf), (0x04, .readQueues), (0x05, .readBatch), (0x06, .readPending), (0x07, .readEpisode)]
  let roles : List (Byte × (Frame → Instr)) := [(0x20, .takeover), (0x21, .release), (0x22, .ackEpisode)]
  fetches ++ reads ++ changeRows ++ roles

/-- The timer expiries. -/
def isExpiry : Instr → Bool
  | .presenceSettled _ => true
  | .presenceLost _ => true
  | .handleSettleExpiry _ => true
  | .supplyLowSettleExpiry => true
  | .chargeTimeout _ => true
  | .coolDownExpiry _ => true
  | .stabilizeTimeExpiry _ => true
  | .bootTimeout _ => true
  | .powerOffTimerExpiry _ => true
  | .drainDeadlineExpiry _ => true
  | .isolatingLaneSettleExpiry _ => true
  | .entryLaneSettleExpiry _ _ => true
  | .gatherWindowExpiry => true
  | .channelLostPauseExpiry _ => true
  | .holdoffExpiry _ => true
  | .supervisionExpiry _ => true
  | .ledBlinkToggle _ => true
  | _ => false

/-- The table has no pair of slots twice (R95). -/
def PairsOnce (s : State) : Prop := (s.links.map fun e => (e.payload, e.hubSlot)).Nodup

/-- R63, R65, R69, R72: the power accounts agree with the slots, and the deficit flag with the budget. -/
def AccountsLaw (s : State) : Prop := ListsFollow s ∧ GrantsFollow s ∧ SumFollows s ∧ DeficitFollows s

/-- R154, R169: the attention lines follow, and while RESET_L is low no transfer is in flight. -/
def AttentionLaw (s : State) : Prop :=
  AttnFollows s ∧ (s.shelf.inReset = true → ∀ i : SlotId, (s.slot i).chan.transfer = none)

/-- R83: what an idle engine that is not paused does next. -/
def Chosen (c d : Channel) : Prop :=
  if c.identityDue = true then d = { c with transfer := some { kind := .identityRead, attempt := 1 } }
  else if c.noticePending = true ∧ (c.cueQueue = [] ∨ c.lastServed = .cue) then
    d = { c with transfer := some { kind := .noticeRead, attempt := 1 }, noticePending := false }
  else
    match c.cueQueue with
    | [] => d = c
    | cue :: rest => d = { c with transfer := some { kind := .cueWrite cue, attempt := 1 }, cueQueue := rest }

/-- A slot's phase timer runs in this state (R8). -/
def PhaseRuns (i : SlotId) (st : SlotState) (s : State) : Prop :=
  s.stateOf i = st ∧ (s.recordOf i).phaseTimer.isSome = true ∧ (s.recordOf i).phasePaused = false

/-- The response held for a frame has this status and data (R157, R168). -/
def Holds (code : Byte) (f : Frame) (status : Status) (data : List Byte) (s t : State) : Prop :=
  (t.port f.link).held =
    some { status := status, code := code, overrun := overruns f (s.port f.link), data := data }

/-- A frame of the ACTIVE link leaves its port with supervision started again and a response, and does not touch the
other port, the episode, the count, the shelf lines or the model's own fields. -/
def FrameKeeps (f : Frame) (s t : State) : Prop :=
  t.port f.link =
      { s.port f.link with supervision := some s.settings.supervisionTime, held := (t.port f.link).held } ∧
    t.port f.link.other = s.port f.link.other ∧ t.episode = s.episode ∧ t.elapsed = s.elapsed ∧ t.shelf = s.shelf ∧
    t.coincidences = s.coincidences ∧ t.pending = s.pending

/-- A refused frame of the ACTIVE link: its supervision starts again and the refusal is held, nothing else. -/
def Refused (code : Byte) (f : Frame) (status : Status) (s : State) : State :=
  answered code f status [] (supervised f.link s)

/-- A cue is on its way to a blade: it is being written or waits in the queue. -/
def CueOnWay (i : SlotId) (c : Cue) (t : State) : Prop :=
  (t.slot i).chan.transfer.map (·.kind) = some (.cueWrite c) ∨ c ∈ (t.slot i).chan.cueQueue

/-- A member that waits to be started can be: it is in service, powered or asking to retire (R118, R120). -/
def Startable (s : State) (m : Member) : Prop :=
  s.stateOf m.slot = .inService ∨ s.stateOf m.slot = .powered ∨
    (s.stateOf m.slot = .retirePending ∧ (s.recordOf m.slot).priorState.isSome = true)

/-- A member has been started (R120): it drains, or has drained and gone on to ISOLATING, which it has where it touches
no entry (R105, R121); its return state is kept. -/
def MemberStarted (s t : State) (m : Member) : Prop :=
  (t.stateOf m.slot = .draining ∨ t.stateOf m.slot = .isolating) ∧
    ((∀ e ∈ s.links, e.touches m.slot = false) → t.stateOf m.slot = .isolating) ∧
    t.memberOf m.slot =
      some { m with
        started := true
        returnState :=
          if s.stateOf m.slot = .inService then some .inService
          else if s.stateOf m.slot = .powered then some .powered
          else (s.recordOf m.slot).priorState } ∧
    (t.slot m.slot).out.mainEn = true ∧ (t.slot m.slot).out.led = .slowBlink ∧
    (t.recordOf m.slot).priorState = none ∧
    (t.recordOf m.slot).phaseTimer =
      (if t.stateOf m.slot = .draining then some s.settings.drainDeadline else some s.settings.laneSettle)

/-- R102: a started member's lanes. A JOINING entry or one held from a restart is OPEN; of a JOINED one whose payload can
be asked, with no other cue of its hub waiting, a drain is asked and the member drains. -/
def LanesAsked (s t : State) (m : Member) : Prop :=
  ∀ e ∈ s.links, e.touches m.slot = true →
    ((e.linkState = .joining ∨ (e.linkState = .joined ∧ e.held = true)) →
      t.entry e.payload e.hubSlot =
        some { e with linkState := .open, linkUp := .none, settle := none, held := false }) ∧
    (e.linkState = .joined → e.held = false → (s.stateOf e.payload).conversing = true →
      (∀ d ∈ (s.slot e.payload).chan.cueQueue, d.group ≠ .hub e.hubSlot) →
      t.entry e.payload e.hubSlot = some { e with linkState := .drainAsked } ∧
        CueOnWay e.payload (.drain e.hubSlot) t ∧ t.stateOf m.slot = .draining)

/-- Restart (R169 to R174): the state a restart of this cause leaves, from the outputs and lines it found. -/
def Restarted (cause : RestartCause) (s t : State) : Prop :=
  (∀ i : SlotId,
    t.stateOf i =
      (if s.roleOf i = .unused ∨ (s.slot i).lines.presL = .high then .empty
       else if (s.slot i).out.preEn = true ∨ (s.slot i).out.mainEn = false then .settling
       else if (s.slot i).lines.pgood = .low then .faulted
       else .recovering) ∧
    Shows i false (decide (t.stateOf i = .recovering)) (if t.stateOf i = .recovering then 15 else 0)
      (if t.stateOf i = .faulted then .on else .off) t ∧
    (t.recordOf i).policy = (s.recordOf i).policy ∧ (t.slot i).lines = (s.slot i).lines ∧
    (t.recordOf i).handleClosed = decide ((s.slot i).lines.hdl ≠ (s.recordOf i).policy.openPolarity) ∧
    (t.slot i).cond.present = decide (¬ (t.stateOf i).debounces ∨ (s.slot i).lines.presL = .low) ∧
    (t.stateOf i = .settling → (t.slot i).cond.debounce = some (s.recordOf i).policy.presenceDebounce) ∧
    (t.recordOf i).reason = (if t.stateOf i = .faulted then some .runFault else none) ∧
    (t.recordOf i).faultOutstanding = decide (t.stateOf i = .faulted) ∧
    (t.recordOf i).adopted = decide (t.stateOf i = .recovering) ∧
    (t.recordOf i).laneEvidence = (decide (t.stateOf i = .recovering) && s.laneEvidenceOf i) ∧
    (t.recordOf i).retriesUsed = 0 ∧ (t.recordOf i).approved = false ∧ (t.recordOf i).idUnverified = false ∧
    (t.recordOf i).floorApplied = false ∧ (t.recordOf i).channelLost = false ∧ (t.recordOf i).batchMember = false ∧
    (t.recordOf i).priorState = none ∧ (t.recordOf i).identity = none ∧ (t.recordOf i).power = none ∧
    (t.recordOf i).lastNotice = none ∧ (t.recordOf i).phaseTimer = none ∧ (t.slot i).chan.cueQueue = [] ∧
    (t.slot i).chan.transfer =
      (if t.stateOf i = .recovering then some { kind := .identityRead, attempt := 1 } else none) ∧
    (t.attention.entry (.slot i .powerFault)).pending = decide (t.stateOf i = .faulted)) ∧
  TableLaw t ∧ LanesFollow t ∧
  (∀ e ∈ t.links,
    e.linkUp = .none ∧ e.settle = none ∧
    (if (s.slot e.payload).out.laneEn e.hub = true ∧ t.stateOf e.payload = .recovering ∧
        t.stateOf e.hubSlot = .recovering then e.linkState = .joined ∧ e.held = true
     else e.linkState = .open ∧ e.held = false)) ∧
  t.settings = s.settings ∧ t.attention.levels = s.attention.levels ∧
  t.power = { PowerAccounts.initial with freeze := decide (2 ≤ (allSlots.filter fun i => t.stateOf i = .faulted).length) } ∧
  t.batch = Batch.initial ∧ t.portA = Port.initial s.portA.inReset ∧ t.portB = Port.initial s.portB.inReset ∧
  t.episode = Episode.initial ∧ t.elapsed = 0 ∧
  t.attention.entry (.shelf .restarted) = { pending := true, repeated := false, detail := some (.restarted cause) } ∧
  t.shelf = { s.shelf with supplyAsserted := decide (s.shelf.supplyLow = .high), supplySettle := none, inReset := false } ∧
  t.coincidences = s.coincidences ∧ t.pending = s.pending

end Sys2Proof.Safety
end

