-- ==== Sys2Proof/Certificates/Slice0/Obligations.lean ====
section
/-! DEFINITION. The statements for the provers: the step, the encodings, the laws every step keeps, what each command
does, and where a command is refused. -/

open Sys2Proof Sys2Proof.Machine Sys2Proof.Safety

/-! ## The step -/

/-- The command at the front of the queue is the next one taken; the rest of the queue waits. -/
def Obligations.StepTakesTheFrontCommand : Prop :=
  ∀ (c : Instr) (rest : List Instr) (s : State),
    s.pending = c :: rest → step s = exec c { s with pending := rest }

/-- MODEL'S CHOICE, log entries 2 and 4: with no command waiting, an expiry that is due is taken (any of several, by the
free value); with none due, one step of the time base passes, and every running timer but a paused drain deadline falls
by one (R19, R8); the elapsed-time count advances and wraps (R164). -/
def Obligations.IdleStepsKeepTime : Prop :=
  ∀ s : State, s.pending = [] → Running s →
    (∀ c : Instr, s.due = [c] → step s = exec c s) ∧
    (2 ≤ s.due.length → ∃ c ∈ s.due, step s = exec c { s with coincidences := s.coincidences + 1 }) ∧
    (s.due = [] → ∃ t, step s = .next t ∧ t.elapsed = (s.elapsed + 1) % 4294967296 ∧
      (∀ i : SlotId,
        t.slot i =
          { s.slot i with
            record :=
              { (s.slot i).record with
                phaseTimer :=
                  if (s.slot i).record.phasePaused = true then (s.slot i).record.phaseTimer
                  else (s.slot i).record.phaseTimer.map (· - 1) }
            cond :=
              { (s.slot i).cond with
                debounce := (s.slot i).cond.debounce.map (· - 1)
                loss := (s.slot i).cond.loss.map (· - 1)
                handle := (s.slot i).cond.handle.map (· - 1) }
            out := { (s.slot i).out with blink := (s.slot i).out.blink.map (· - 1) }
            chan := { (s.slot i).chan with pause := (s.slot i).chan.pause.map (· - 1) } }) ∧
      t.links = s.links.map (fun e => { e with settle := e.settle.map (· - 1) }) ∧
      t.batch = { s.batch with window := s.batch.window.map (· - 1) } ∧
      (∀ l : Link,
        t.port l =
          { s.port l with
            supervision := (s.port l).supervision.map (· - 1), holdoff := (s.port l).holdoff.map (· - 1) }) ∧
      t.shelf = { s.shelf with supplySettle := s.shelf.supplySettle.map (· - 1) } ∧
      t.settings = s.settings ∧ t.power = s.power ∧ t.attention = s.attention ∧ t.episode = s.episode ∧
      t.coincidences = s.coincidences ∧ t.pending = s.pending)

/-- While REFCLK is absent no timer counts down or expires (R19), and from the start of a restart none runs (R169). -/
def Obligations.NothingExpiresWithoutTheTimeBase : Prop :=
  ∀ s : State, ¬ Running s →
    (s.pending = [] → step s = .next s) ∧ ∀ c : Instr, isExpiry c = true → exec c s = .next s

/-- Every command is carried out, refused ones included (R158: a refused command changes nothing outside the port; R168:
every one is answered). None touches the queue of waiting commands or the count of free choices, which are the model's
own fields (MODEL'S CHOICE, log entries 4 and 24). -/
def Obligations.EveryCommandCompletes : Prop :=
  ∀ (c : Instr) (s : State),
    ∃ t, exec c s = .next t ∧ t.pending = s.pending ∧ t.coincidences = s.coincidences

/-! ## Encodings -/

/-- Decode and encode agree on transactions, in both directions (R157, R158, with the codes of section 12.2): a
well-formed command that is a transaction is read back from its bytes, and bytes that are no short frame are written
back from their command. Which bytes a SHORT_FRAME of a given length stands for is MODEL'S CHOICE (shortFrameBytes, log
entry 28). -/
def Obligations.TransactionsRoundTrip : Prop :=
  (∀ (c : Instr) (l : Link) (bytes : List Byte),
    c.wellFormed = true → encodeTransaction c = some (l, bytes) → decodeTransaction l bytes = c) ∧
  (∀ (l : Link) (bytes : List Byte),
    (decodeTransaction l bytes).wellFormed = true ∧
      ((∀ n : Nat, decodeTransaction l bytes ≠ .shortFrame l n) →
        encodeTransaction (decodeTransaction l bytes) = some (l, bytes)))

/-- The identity block (section 12.1, R175): an identity whose fields are in range has a block of 32 bytes that passes
the check and the field tests and gives it back, and a block that passes both is the block of the identity it gives. -/
def Obligations.IdentityBlocksRoundTrip : Prop :=
  (∀ b : Identity,
    b.demand < 65536 → b.inrushClass ≤ 15 → b.bootAllowance < 256 → b.serial.toList.all printable = true →
      b.model.toList.all printable = true →
      ∃ v : Vector Byte 32, v.toList = b.block ∧ blockChecks v = true ∧ blockFields v = some b) ∧
  (∀ (v : Vector Byte 32) (b : Identity),
    blockChecks v = true → blockFields v = some b →
      b.block = v.toList ∧ b.demand < 65536 ∧ b.inrushClass ≤ 15 ∧ b.bootAllowance < 256)

/-! ## Laws every step keeps, from every state -/

/-- R28: the enables are those of the state, with the ILIM code outside CHARGING and the LED pattern. -/
def Obligations.EveryStepKeepsOutputs : Prop :=
  ∀ s t : State, OutputsFollow s → step s = .next t → OutputsFollow t

/-- R32, R98: the lane enables are those of the Link Table. -/
def Obligations.EveryStepKeepsLanes : Prop :=
  ∀ s t : State, LanesFollow s → step s = .next t → LanesFollow t

/-- R63, R65, R69, R71, R72: list places, grants, permits, S and the deficit flag agree; with that, the Budget Wait List
and the Inrush Permit Queue stay in their orders and at most four slots hold a permit. -/
def Obligations.EveryStepKeepsAccounts : Prop :=
  (∀ s t : State, AccountsLaw s → step s = .next t → AccountsLaw t) ∧
  (∀ s t : State, AccountsLaw s → OrdersLaw s → step s = .next t → OrdersLaw t)

/-- R149: service levels rise strictly, a stack holds at most 8, and only an ACTIVE link has service state. -/
def Obligations.EveryStepKeepsService : Prop :=
  ∀ s t : State, ServiceLaw s → step s = .next t → ServiceLaw t

/-- R160, R161: at most one link is ACTIVE, a SILENT link only while none is, and supervision only on an ACTIVE link. -/
def Obligations.EveryStepKeepsRoles : Prop :=
  ∀ s t : State, RolesLaw s → step s = .next t → RolesLaw t

/-- R90, R93, R96: a cue queue holds at most one cue for each hub, one decision cue and one warning or query cue; with the
Link Table in order, its hub cues name present HUB slots, of which there are at most two (R3), so it never holds more
than 4 cues. -/
def Obligations.EveryStepKeepsCueQueues : Prop :=
  (∀ s t : State, CueLaw s → step s = .next t → CueLaw t) ∧
  (∀ s t : State, CueLaw s → TableLaw s → CueHubsLaw s → step s = .next t → CueHubsLaw t)

/-- R154: the attention lines show what is deliverable; they are OFF while RESET_L is low (R169). -/
def Obligations.EveryStepKeepsAttentionLines : Prop :=
  ∀ s t : State, AttentionLaw s → step s = .next t → AttentionLaw t

/-- R20, R21, R9, R11: the presence filter is in its state's mode, the reason code and the prior state are present
exactly in their states. R117, R121, R126: the member list holds no slot twice, a slot's batch member flag is set exactly
while it is a member without an outcome, and every slot in DRAINING is a member of a RUNNING or HOLDING batch. -/
def Obligations.EveryStepKeepsRecords : Prop :=
  (∀ s t : State, PresenceLaw s → step s = .next t → PresenceLaw t) ∧
  (∀ s t : State, RecordLaw s → step s = .next t → RecordLaw t) ∧
  (∀ s t : State, MembersLaw s → step s = .next t → MembersLaw t ∧ MembersFollow t)

/-- R95: the table has one entry for each pair of a PAYLOAD and a HUB slot, in its order, under the hub's name. R98: an
entry that is not OPEN exists only while both its ends are in IN_SERVICE, RETIRE_PENDING, DRAINING or RECOVERING. -/
def Obligations.EveryStepKeepsTheLinkTable : Prop :=
  (∀ s t : State, TableLaw s → step s = .next t → TableLaw t) ∧
  (∀ s t : State, TableLaw s → CarryLaw s → step s = .next t → CarryLaw t ∧ EndsCarry t)

/-- The state right after power-on meets every law. -/
def Obligations.ResetMeetsEveryLaw : Prop :=
  OutputsFollow State.reset ∧ LanesFollow State.reset ∧ AccountsLaw State.reset ∧ ServiceLaw State.reset ∧
    RolesLaw State.reset ∧ CueLaw State.reset ∧ AttentionLaw State.reset ∧ PresenceLaw State.reset ∧
    RecordLaw State.reset ∧ TableLaw State.reset ∧ MembersFollow State.reset ∧ EndsCarry State.reset ∧
    OrdersLaw State.reset ∧ CueHubsLaw State.reset ∧ MembersLaw State.reset ∧ CarryLaw State.reset

/-! ## Shared operations -/

/-- What entry to a state does to a slot: R7 (enables, LED), R8 (phase timer), R9 to R14 (record), R30 (ILIM). The prior
state is absent after entry to every state but RETIRE_PENDING, where R112 sets it. The ILIM code of a slot that enters
CHARGING without an identity part is not R30's: the rule states none, and it is MODEL'S CHOICE (DESIGN CHOICE, log
entry 21). -/
def Obligations.EnteringAStateFollowsTheTables : Prop :=
  ∀ (set : ShelfSettings) (st : SlotState) (why : Option ReasonCode) (x : Slot),
    (Slot.enter set st why x).record.state = st ∧
    (Slot.enter set st why x).record.phaseTimer =
      (match st with
        | .charging => some x.record.policy.chargeTimeout
        | .cooling => some 500
        | .stabilizing => some 20
        | .powered =>
          some (min 600 (if (x.record.identity.map (·.bootAllowance)).getD 0 = 0 then x.record.policy.bootDefault
            else (x.record.identity.map (·.bootAllowance)).getD 0) * 1000)
        | .draining => some set.drainDeadline
        | .isolating => some set.laneSettle
        | .poweringDown => some set.powerOffTime
        | _ => none) ∧
    (Slot.enter set st why x).record.reason =
      (if st = .rejected ∨ st = .faulted ∨ st = .stuck then why else none) ∧
    (Slot.enter set st why x).record.retriesUsed =
      (if st = .powered ∨ st = .identified ∨ st = .settling ∨ st = .empty then 0 else x.record.retriesUsed) ∧
    (Slot.enter set st why x).record.approved =
      (x.record.approved &&
        !decide (st = .empty ∨ st = .settling ∨ st = .rejected ∨ st = .faulted ∨ st = .vacantReady)) ∧
    (Slot.enter set st why x).record.faultOutstanding =
      (if st = .faulted ∨ st = .stuck then true
        else if st = .settling ∧ x.record.state = .empty then false
        else x.record.faultOutstanding) ∧
    (Slot.enter set st why x).record.adopted =
      (x.record.adopted &&
        !decide (st = .empty ∨ st = .settling ∨ st = .identified ∨ st = .rejected ∨ st = .faulted ∨
          st = .vacantReady)) ∧
    (Slot.enter set st why x).record.identity =
      (if st = .empty ∨ st = .settling ∨ (st = .identifying ∧ x.record.state = .vacantReady) then none
        else x.record.identity) ∧
    (Slot.enter set st why x).record.power =
      (if st = .empty ∨ st = .identified ∨ st = .vacantReady ∨ st = .faulted then none
        else x.record.power.map fun p => { p with permitHeld := decide (st = .charging) }) ∧
    (Slot.enter set st why x).record.lastNotice = (if st = .empty then none else x.record.lastNotice) ∧
    (st ≠ .retirePending → (Slot.enter set st why x).record.priorState = none) ∧
    (Slot.enter set st why x).record.policy = x.record.policy ∧
    (Slot.enter set st why x).record.handleClosed = x.record.handleClosed ∧
    (Slot.enter set st why x).record.channelLost = x.record.channelLost ∧
    (Slot.enter set st why x).record.batchMember = x.record.batchMember ∧
    (Slot.enter set st why x).lines = x.lines ∧
    (Slot.enter set st why x).out.preEn = decide (st = .charging) ∧
    (Slot.enter set st why x).out.mainEn =
      decide (st = .stabilizing ∨ st = .powered ∨ st = .inService ∨ st = .retirePending ∨ st = .draining ∨
        st = .isolating ∨ st = .recovering) ∧
    (Slot.enter set st why x).out.ilim =
      (if st = .charging then
          (match x.record.identity with
            | some b => min x.record.policy.inrushLimit b.inrushClass
            | none => x.record.policy.inrushLimit)
        else if (Slot.enter set st why x).out.mainEn = true then 15 else 0) ∧
    (Slot.enter set st why x).out.led =
      (match st with
        | .identified | .rejected | .vacantReady | .faulted => .on
        | .retirePending | .draining | .isolating | .poweringDown => .slowBlink
        | .stuck => .fastBlink
        | _ => .off) ∧
    ((Slot.enter set st why x).out.led = x.out.led →
      (Slot.enter set st why x).out.lit = x.out.lit ∧ (Slot.enter set st why x).out.blink = x.out.blink) ∧
    (Slot.enter set st why x).out.laneEnA = x.out.laneEnA ∧ (Slot.enter set st why x).out.laneEnB = x.out.laneEnB

/-- R61: the grant of a demand D with margin M and floor F, in whole numbers, rounded up before the floor is applied;
each computation sets or clears the floor applied flag. -/
def Obligations.GrantsAreRoundedUpAndFloored : Prop :=
  ∀ (s : State) (i : SlotId) (b : Identity), (s.recordOf i).identity = some b →
    (b.demand = 0 → s.grantNow i = (s.settings.floor, true)) ∧
    (0 < b.demand → (b.demand * (100 + s.settings.margin) + 999) / 1000 < s.settings.floor →
      s.grantNow i = (s.settings.floor, true)) ∧
    (0 < b.demand → s.settings.floor ≤ (b.demand * (100 + s.settings.margin) + 999) / 1000 →
      s.grantNow i = ((b.demand * (100 + s.settings.margin) + 999) / 1000, false) ∧
      b.demand * (100 + s.settings.margin) ≤ 1000 * (s.grantNow i).1 ∧
      1000 * (s.grantNow i).1 < b.demand * (100 + s.settings.margin) + 1000) ∧
    ((s.computeGrant i).recordOf i).floorApplied = (s.grantNow i).2 ∧
    ((s.openRequest i).recordOf i).floorApplied = (s.grantNow i).2 ∧
    ((s.adopt i (.success b)).recordOf i).floorApplied = (grantFor b.demand s.settings.margin s.settings.floor).2 ∧
    grantFor b.demand s.settings.margin s.settings.floor = s.grantNow i

/-- R90, R91, R101: a cue offered while its slot's engine writes another: placed at the tail, or meeting the pending cue
of its group as the table gives, with the two cases in which the entry is DRAINED at once; a cue offered outside the
conversing states is discarded. -/
def Obligations.OfferedCuesMeet : Prop :=
  ∀ (s : State) (p : SlotId) (c : Cue),
    ((s.stateOf p).conversing = false → s.offer p c = s) ∧
    ((s.stateOf p).conversing = true → (s.slot p).chan.transfer.isSome = true →
      ((∀ d ∈ (s.slot p).chan.cueQueue, d.group ≠ c.group) →
        s.offer p c = s.modChan p fun ch => { ch with cueQueue := ch.cueQueue ++ [c] }) ∧
      (∀ d : Cue, pendingOf c.group (s.slot p).chan.cueQueue = some d →
        ((s.offer p c).slot p).chan.cueQueue =
          (s.slot p).chan.cueQueue.filter (·.group != c.group) ++
            (match d, c with
              | .linkUp _, .linkDown _ => []
              | .linkUp _, .drain _ => []
              | .drain _, .undrain _ => []
              | .undrain _, .drain _ => []
              | _, _ => [c])) ∧
      (∀ (h : SlotId) (e : LinkEntry), c = .drain h → s.entry p h = some e → e.linkState = .drainAsked →
        (pendingOf (.hub h) (s.slot p).chan.cueQueue = some (.linkUp h) →
          (s.offer p c).entry p h = some { e with linkState := .drained, linkUp := .none }) ∧
        (pendingOf (.hub h) (s.slot p).chan.cueQueue = some (.undrain h) →
          (s.offer p c).entry p h = some { e with linkState := .drained })) ∧
      (∀ (h : SlotId) (e : LinkEntry), c = .linkDown h → s.entry p h = some e →
        pendingOf (.hub h) (s.slot p).chan.cueQueue = some (.linkUp h) →
          (s.offer p c).entry p h = some { e with linkUp := .none }))

/-! ## Resets and the clock -/

/-- POWER_ON: every block takes its defaults, every output is OFF, and the first filter periods start (R2, R17, R27, R33,
R59, R80, R81, R111, R117, R145, R156, R167). MODEL'S CHOICE: what the outside drives stays as it is (log entry 25), and
a restart under way ends (log entry 20). -/
def Obligations.PowerOnSetsDefaults : Prop :=
  ∀ s : State, ∃ t, exec .powerOn s = .next t ∧
    (∀ i : SlotId,
      (t.recordOf i).policy = ⟨.unused, .held, 4, 300, 8, 200, 1, 120, false, .low, 100, 4⟩ ∧
      t.recordOf i = SlotRecord.initial (t.recordOf i).policy ∧ t.stateOf i = .empty ∧
      (t.slot i).lines = (s.slot i).lines ∧
      (t.slot i).cond =
        { present := false, debounce := if (s.slot i).lines.presL = .low then some 100 else none, loss := none,
          handle := some 16 } ∧
      (t.slot i).out =
        { preEn := false, mainEn := false, ilim := 0, laneEnA := false, laneEnB := false, led := .off, lit := false,
          blink := none } ∧
      (t.slot i).chan =
        { transfer := none, identityDue := false, noticePending := false, cueQueue := [], lastServed := .cue,
          pause := none }) ∧
    t.links = [] ∧ t.settings = ⟨0, 10, 10, 2, 5, 5000, 500, 50, 1000⟩ ∧
    t.power = ⟨0, false, [], [], [], 0, false⟩ ∧ t.batch = ⟨.idle, none, []⟩ ∧
    t.attention.levels = ⟨7, 6, 6, 4, 4, 4, 2, 3, 5, 7, 7, 6, 6, 5⟩ ∧
    (∀ k : EventKey, t.attention.entry k = { pending := false, repeated := false, detail := none }) ∧
    t.attention.attnA = false ∧ t.attention.attnB = false ∧
    (∀ l : Link, t.port l = ⟨.standby, none, none, (s.port l).inReset, 0, [], none⟩) ∧
    t.episode = ⟨.none, none, none, none, []⟩ ∧ t.elapsed = 0 ∧
    t.shelf = ⟨s.shelf.supplyLow, false, some 2, s.shelf.refclk, false⟩

/-- RESET_L_ASSERTED (R169, R33): timers and transfers end, outputs and states stay, ATTN goes OFF, responses go; while
the line is low no line event and no frame is taken. That a second RESET_L_ASSERTED changes nothing is MODEL'S CHOICE (log
entry 20). -/
def Obligations.ResetLineHoldsThePart : Prop :=
  (∀ s : State, s.shelf.inReset = false → ∃ t, exec .resetLAsserted s = .next t ∧
    (∀ i : SlotId,
      t.slot i =
        { s.slot i with
          record := { (s.slot i).record with phaseTimer := none }
          cond := { (s.slot i).cond with debounce := none, loss := none, handle := none }
          out := { (s.slot i).out with blink := none }
          chan := { (s.slot i).chan with transfer := none, pause := none } }) ∧
    t.links = s.links.map (fun e => { e with settle := none }) ∧ t.batch = { s.batch with window := none } ∧
    t.attention = { s.attention with attnA := false, attnB := false } ∧
    (∀ l : Link, t.port l = { s.port l with supervision := none, held := none, holdoff := none }) ∧
    t.shelf = { s.shelf with supplySettle := none, inReset := true } ∧ t.settings = s.settings ∧
    t.power = s.power ∧ t.episode = s.episode ∧ t.elapsed = s.elapsed) ∧
  (∀ (s : State) (i : SlotId) (level : Level) (f : Frame) (n : Nat), s.shelf.inReset = true →
    exec .resetLAsserted s = .next s ∧
    exec (.presenceEdge i level) s = .next (s.modLines i fun v => { v with presL := level }) ∧
    exec (.handleEdge i level) s = .next (s.modLines i fun v => { v with hdl := level }) ∧
    exec (.faultAsserted i level) s = .next (s.modLines i fun v => { v with fltL := level }) ∧
    exec (.notifyAsserted i level) s = .next (s.modLines i fun v => { v with ntfyL := level }) ∧
    exec (.pgoodRose i) s = .next (s.modLines i fun v => { v with pgood := .high }) ∧
    exec (.pgoodFell i) s = .next (s.modLines i fun v => { v with pgood := .low }) ∧
    exec (.supplyLowEdge level) s = .next (s.modShelf fun v => { v with supplyLow := level }) ∧
    exec (.shortFrame f.link n) s = .next s ∧
    (∀ code : Byte, exec (.unknownCommand code f) s = .next s) ∧
    ∀ row ∈ frameRows, exec (row.2 f) s = .next s)

/-- RESET_L_RELEASED and RESTART (R167, R169, R170, R173, R174, with the restart values of R18, R80 and R143's test):
every slot is classified from its held enables and its sampled lines, the Link Table is rebuilt, and RESTARTED is posted.
That a RESET_L_RELEASED without a restart under way changes nothing is MODEL'S CHOICE (log entry 20). -/
def Obligations.RestartsClassifyEverySlot : Prop :=
  (∀ s : State, s.shelf.inReset = true → ∃ t, exec .resetLReleased s = .next t ∧ Restarted .resetLine s t) ∧
  (∀ s : State, s.shelf.inReset = false → exec .resetLReleased s = .next s) ∧
  (∀ (s : State) (f : Frame), MayChange f s → f.slot = 0 →
    ∃ t, exec (.restart f) s = .next t ∧ Restarted .command s t)

/-- LRST_ASSERTED and LRST_RELEASED (R166): the port is STANDBY, with no response, no supervision and no service state,
and takes no frame while the line is low; only an ACTIVE link's reset posts LINK (RESET), and it lets slots be added to
the batch on their own (R132, R164). -/
def Obligations.LinkResetClearsThePort : Prop :=
  (∀ (s : State) (l : Link), s.shelf.inReset = false →
    ∃ t, exec (.lrstAsserted l) s = .next t ∧
      t.port l = ⟨.standby, none, none, true, 0, [], none⟩ ∧ t.port l.other = s.port l.other ∧
      t.settings = s.settings ∧ t.power = s.power ∧ t.elapsed = s.elapsed ∧ t.shelf = s.shelf ∧
      t.episode.state = s.episode.state ∧ t.episode.silentLink = s.episode.silentLink ∧
      t.episode.start = s.episode.start ∧ t.episode.endOfSilence = s.episode.endOfSilence ∧
      t.attention.attnA = attnLevel t .a ∧ t.attention.attnB = attnLevel t .b ∧
      ((s.port l).role = .active → OnlyPosted (.shelf .link) (.link .reset l) s t) ∧
      ((s.port l).role ≠ .active ∨ (∀ i : SlotId, (s.recordOf i).policy.autoRetire = false) →
        t.slots = s.slots ∧ t.links = s.links ∧ t.batch = s.batch ∧ t.episode = s.episode) ∧
      ((s.port l).role ≠ .active → ∀ k : EventKey, t.attention.entry k = s.attention.entry k) ∧
      ((s.port l).role = .active → (s.port l.other).role ≠ .active →
        AutoAdded (autoSlots s.batch.state s) s.episode s t)) ∧
  (∀ (s : State) (l : Link), exec (.lrstReleased l) s = .next (s.modPort l fun p => { p with inReset := false })) ∧
  (∀ (s : State) (f : Frame), (s.port f.link).inReset = true → ∀ row ∈ frameRows, exec (row.2 f) s = .next s)

/-! ## Line edges -/

/-- The edges that start or stop a filter, and the two lines without one (R19, R20, R21, R23, R25, R26, R85): REFCLK_LOSS,
REFCLK_RETURN, HANDLE_EDGE, SUPPLY_LOW_EDGE, PRESENCE_EDGE in LOSS mode, and NOTIFY_ASSERTED. -/
def Obligations.EdgesStartTheirFilters : Prop :=
  ∀ (s : State) (i : SlotId) (level : Level),
    exec .refclkLoss s = .next { s with shelf := { s.shelf with refclk := false } } ∧
    exec .refclkReturn s = .next { s with shelf := { s.shelf with refclk := true } } ∧
    (s.shelf.inReset = false →
      exec (.handleEdge i level) s =
        .next (s.modSlot i fun x =>
          { x with lines := { x.lines with hdl := level }, cond := { x.cond with handle := some 16 } }) ∧
      exec (.supplyLowEdge level) s =
        .next { s with shelf := { s.shelf with supplyLow := level, supplySettle := some 2 } } ∧
      ((s.stateOf i ≠ .empty ∧ s.stateOf i ≠ .settling) →
        exec (.presenceEdge i level) s =
          .next (s.modSlot i fun x =>
            { x with
              lines := { x.lines with presL := level }
              cond := { x.cond with
                loss := if level = .high then some (s.recordOf i).policy.presenceLoss else none } })) ∧
      ((s.stateOf i = .settling ∨ (s.stateOf i = .empty ∧ s.roleOf i = .unused)) →
        exec (.presenceEdge i level) s =
          .next (s.modSlot i fun x =>
            { x with
              lines := { x.lines with presL := level }
              cond := { x.cond with debounce := some (s.recordOf i).policy.presenceDebounce } })) ∧
      (level = .high ∨ (s.stateOf i).conversing = false →
        exec (.notifyAsserted i level) s = .next (s.modLines i fun v => { v with ntfyL := level })) ∧
      (level = .low → (s.stateOf i).conversing = true →
        ((s.slot i).chan.transfer.isSome = true ∨ (s.slot i).chan.pause.isSome = true →
          exec (.notifyAsserted i level) s =
            .next (s.modSlot i fun x =>
              { x with lines := { x.lines with ntfyL := .low }, chan := { x.chan with noticePending := true } })) ∧
        ((s.slot i).chan.transfer = none → (s.slot i).chan.pause = none → (s.slot i).chan.identityDue = false →
          ((s.slot i).chan.cueQueue = [] ∨ (s.slot i).chan.lastServed = .cue) →
          exec (.notifyAsserted i level) s =
            .next (s.modSlot i fun x =>
              { x with
                lines := { x.lines with ntfyL := .low }
                chan := { x.chan with
                  transfer := some { kind := .noticeRead, attempt := 1 }, noticePending := false } }))))

/-- PRESENCE_EDGE in EMPTY of a slot with a role (R35): to SETTLING with the debounce started, and the record cleared as
for a new blade; nothing is posted. -/
def Obligations.PresenceEdgeStartsSettling : Prop :=
  ∀ (s : State) (i : SlotId) (level : Level),
    s.shelf.inReset = false → s.stateOf i = .empty → s.roleOf i ≠ .unused →
    ∃ t, exec (.presenceEdge i level) s = .next t ∧ t.stateOf i = .settling ∧
      (t.slot i).cond = { (s.slot i).cond with debounce := some (s.recordOf i).policy.presenceDebounce } ∧
      (t.slot i).lines = { (s.slot i).lines with presL := level } ∧
      (t.recordOf i).faultOutstanding = false ∧ (t.recordOf i).identity = none ∧ (t.recordOf i).retriesUsed = 0 ∧
      (t.recordOf i).approved = false ∧ (t.recordOf i).adopted = false ∧ (t.recordOf i).phaseTimer = none ∧
      Shows i false false 0 .off t ∧ KeepsRecord i s t ∧ (t.slot i).chan = (s.slot i).chan ∧
      t.attention = s.attention ∧ OnlySlot i s t ∧ t.power = offLists i s.power

/-- The PGOOD and FLT_L edges leave the state of a slot unchanged where R24, R57, R134 and R141 say so; the rise of FLT_L
is no event. -/
def Obligations.PowerLinesLeaveOtherStates : Prop :=
  ∀ (s : State) (i : SlotId),
    (s.stateOf i ≠ .charging →
      exec (.pgoodRose i) s = .next (s.modLines i fun v => { v with pgood := .high })) ∧
    (s.stateOf i ∈ [SlotState.empty, .settling, .identifying, .identified, .rejected, .budgetWait, .queued, .charging,
        .cooling, .vacantReady, .faulted, .stuck] →
      exec (.pgoodFell i) s = .next (s.modLines i fun v => { v with pgood := .low })) ∧
    exec (.faultAsserted i .high) s = .next (s.modLines i fun v => { v with fltL := .high }) ∧
    (s.stateOf i ∈ [SlotState.empty, .settling, .identifying, .identified, .rejected, .budgetWait, .queued, .cooling,
        .vacantReady, .faulted, .stuck, .poweringDown] →
      exec (.faultAsserted i .low) s = .next (s.modLines i fun v => { v with fltL := .low }))

/-! ## Presence and handle -/

/-- PRESENCE_SETTLED (R20, R35, R36, R37): a line settled low takes a slot with a role to IDENTIFYING with its identity
read asked for; a line settled high takes SETTLING back to EMPTY; a slot of role UNUSED stays EMPTY. -/
def Obligations.PresenceSettledDecides : Prop :=
  ∀ (s : State) (i : SlotId), Running s → (s.slot i).cond.debounce.isSome = true →
    ((s.stateOf i = .settling ∨ (s.stateOf i = .empty ∧ s.roleOf i ≠ .unused)) → (s.slot i).lines.presL = .low →
      ∃ t, exec (.presenceSettled i) s = .next t ∧ t.stateOf i = .identifying ∧
        (t.slot i).cond = { (s.slot i).cond with present := true, debounce := none, loss := none } ∧
        (t.recordOf i).idUnverified = false ∧ (t.recordOf i).phaseTimer = none ∧ Shows i false false 0 .off t ∧
        (t.slot i).chan.identityDue = true ∧ (t.slot i).chan.pause = none ∧
        ((s.slot i).chan.transfer = none →
          (t.slot i).chan.transfer = some { kind := .identityRead, attempt := 1 }) ∧
        KeepsRecord i s t ∧ t.attention = s.attention ∧ OnlySlot i s t ∧ t.power = offLists i s.power) ∧
    (s.stateOf i = .settling → (s.slot i).lines.presL = .high → (s.recordOf i).power = none →
      ∃ t, exec (.presenceSettled i) s = .next t ∧ t.stateOf i = .empty ∧
        (t.slot i).cond = { (s.slot i).cond with present := false, debounce := none, loss := (s.slot i).cond.loss } ∧
        (t.recordOf i).identity = none ∧ Shows i false false 0 .off t ∧
        (t.recordOf i).faultOutstanding = (s.recordOf i).faultOutstanding ∧ KeepsRecord i s t ∧
        t.attention = s.attention ∧ OnlySlot i s t ∧ t.power = offLists i s.power) ∧
    (s.stateOf i = .empty → (s.roleOf i = .unused ∨ (s.slot i).lines.presL = .high) →
      exec (.presenceSettled i) s =
        .next (s.modCond i fun c =>
          { c with debounce := none, present := decide ((s.slot i).lines.presL = .low) }))

/-- PRESENCE_LOST (R21, R137 to R139): from every state that takes it the slot ends in EMPTY with its outputs OFF, its
lanes open, its work dropped and its grant released; where it held power, a permit, a list place or a grant, fault
outstanding is set and SURPRISE_EXTRACTION posted, with a storm where one is due (R143), elsewhere EXTRACTED. A member is
given EXTRACTED (R126, R127). A released grant or a head's leaving lets the next head in, and a released permit is given
on (R64, R69, R70, R72). -/
def Obligations.PresenceLostEndsInEmpty : Prop :=
  ∀ (s : State) (i : SlotId), Running s → (s.slot i).cond.loss.isSome = true → (s.slot i).lines.presL = .high →
    s.stateOf i ≠ .empty → s.stateOf i ≠ .settling → OutputsFollow s → PairsOnce s →
    ∃ t, exec (.presenceLost i) s = .next t ∧ t.stateOf i = .empty ∧ Shows i false false 0 .off t ∧ LanesOpen i t ∧
      NoWork i t ∧ (t.slot i).cond.present = false ∧ (t.slot i).cond.loss = none ∧
      (t.recordOf i).identity = none ∧ (t.recordOf i).lastNotice = none ∧ (t.recordOf i).reason = none ∧
      (t.recordOf i).priorState = none ∧ (t.recordOf i).approved = false ∧ (t.recordOf i).adopted = false ∧
      (t.recordOf i).phaseTimer = none ∧ (t.recordOf i).power = none ∧ (t.recordOf i).retriesUsed = 0 ∧
      KeepsRecord i s t ∧ i ∉ t.power.waitList ∧ i ∉ t.power.permitQueue ∧ i ∉ t.power.holders ∧
      (if s.stateOf i ∈ [SlotState.identifying, .identified, .rejected, .vacantReady, .faulted] then
        (t.recordOf i).faultOutstanding = (s.recordOf i).faultOutstanding ∧
          Posted (.slot i .extracted) (.leftState (s.stateOf i)) s t
      else
        (t.recordOf i).faultOutstanding = true ∧
          Posted (.slot i .surpriseExtraction) (.leftState (s.stateOf i)) s t ∧
          (StormDue i s → Stormed i s t)) ∧
      (NoAutoBatch i s → OutcomeGiven i .extracted s t) ∧ AutoBatchFollows i s t ∧
      (NoOtherWaits i s →
        t.power.sumOfGrants = s.power.sumOfGrants - (s.recordOf i).reservedGrant ∧ BatchGoesOn i s t ∧
          (Alone i s → OthersKeep i s t ∧ SameShelf s t)) ∧
      GrantPassedOn i s t ∧ PermitPassedOn i s t

/-- HANDLE_SETTLE_EXPIRY (R23, R36, R57, R58): the meaning follows the line and the polarity; an unchanged meaning is no
event, and in the states that only keep the flag nothing else changes. A handle closed event asks for a grant in
IDENTIFIED where the slot is admitted (R42), takes VACANT_READY back to IDENTIFIED or IDENTIFYING (R58), and withdraws
the request of a slot in RETIRE_PENDING that is no member (R114, R116, R148). -/
def Obligations.HandleMeaningFollowsTheLine : Prop :=
  ∀ (s : State) (i : SlotId), Running s → (s.slot i).cond.handle.isSome = true →
    (decide ((s.slot i).lines.hdl ≠ (s.recordOf i).policy.openPolarity) = (s.recordOf i).handleClosed →
      exec (.handleSettleExpiry i) s = .next (s.modCond i fun c => { c with handle := none })) ∧
    ((s.slot i).lines.hdl ≠ (s.recordOf i).policy.openPolarity → (s.recordOf i).handleClosed = false →
      s.stateOf i ∉ [SlotState.identified, .vacantReady, .retirePending] →
      exec (.handleSettleExpiry i) s =
        .next (s.modSlot i fun x =>
          { x with record := { x.record with handleClosed := true }, cond := { x.cond with handle := none } })) ∧
    ((s.slot i).lines.hdl = (s.recordOf i).policy.openPolarity → (s.recordOf i).handleClosed = true →
      s.stateOf i ∉ [SlotState.budgetWait, .queued, .charging, .cooling, .stabilizing, .powered, .inService] →
      exec (.handleSettleExpiry i) s =
        .next (s.modSlot i fun x =>
          { x with record := { x.record with handleClosed := false }, cond := { x.cond with handle := none } })) ∧
    ((s.slot i).lines.hdl ≠ (s.recordOf i).policy.openPolarity → (s.recordOf i).handleClosed = false →
      ((s.stateOf i = .identified ∧ (s.recordOf i).policy.admitMode = .held ∧ (s.recordOf i).approved = false) ∨
          (s.stateOf i = .retirePending ∧ (s.recordOf i).batchMember = true) →
        exec (.handleSettleExpiry i) s =
          .next (s.modSlot i fun x =>
            { x with record := { x.record with handleClosed := true }, cond := { x.cond with handle := none } })) ∧
      (∀ g : Nat, s.stateOf i = .identified →
        ((s.recordOf i).policy.admitMode = .auto ∨ (s.recordOf i).approved = true) → s.power.freeze = true →
        s.power.stampCounter ≤ 4294967295 → g = min 1000 (s.grantNow i).1 →
        ∃ t, exec (.handleSettleExpiry i) s = .next t ∧ GrantAsked i g s t ∧ (t.recordOf i).handleClosed = true ∧
          (t.recordOf i).approved = (s.recordOf i).approved ∧ t.attention = s.attention ∧ OnlySlot i s t) ∧
      (s.stateOf i = .vacantReady → (s.recordOf i).idUnverified = true →
        ∃ t, exec (.handleSettleExpiry i) s = .next t ∧ t.stateOf i = .identifying ∧
          (t.recordOf i).handleClosed = true ∧ (t.recordOf i).identity = none ∧
          (t.recordOf i).idUnverified = false ∧ (t.recordOf i).phaseTimer = none ∧ Shows i false false 0 .off t ∧
          (t.slot i).chan.identityDue = true ∧
          ((s.slot i).chan.transfer = none →
            (t.slot i).chan.transfer = some { kind := .identityRead, attempt := 1 }) ∧
          t.attention = s.attention ∧ OnlySlot i s t ∧ t.power = offLists i s.power) ∧
      (s.stateOf i = .vacantReady → (s.recordOf i).idUnverified = false → (s.recordOf i).power = none →
        ((s.recordOf i).policy.admitMode = .held ∧ (s.recordOf i).approved = false) ∨ s.power.freeze = true →
        ∃ t, exec (.handleSettleExpiry i) s = .next t ∧ (t.recordOf i).handleClosed = true ∧
          (t.recordOf i).identity = (s.recordOf i).identity ∧
          (t.recordOf i).approved = (s.recordOf i).approved ∧
          OnlyPosted (.slot i .identified) (.leftState .vacantReady) s t ∧ OnlySlot i s t ∧
          ((s.recordOf i).policy.admitMode = .held → (s.recordOf i).approved = false →
            t.stateOf i = .identified ∧ (t.recordOf i).power = none ∧ Shows i false false 0 .on t ∧
              t.power = offLists i s.power) ∧
          (∀ g : Nat, (s.recordOf i).policy.admitMode = .auto → s.power.freeze = true →
            s.power.stampCounter ≤ 4294967295 → i ∉ s.power.waitList → g = min 1000 (s.grantNow i).1 →
            GrantAsked i g s t)) ∧
      (∀ prior : ReturnState, s.stateOf i = .retirePending → (s.recordOf i).batchMember = false →
        (s.recordOf i).priorState = some prior → OutputsFollow s →
        ∃ t, exec (.handleSettleExpiry i) s = .next t ∧ t.stateOf i = prior.toState ∧
          (t.recordOf i).priorState = none ∧ (t.recordOf i).handleClosed = true ∧
          (t.recordOf i).phaseTimer =
            (if prior = .powered then
              some (min 600 (if ((s.recordOf i).identity.map (·.bootAllowance)).getD 0 = 0
                then (s.recordOf i).policy.bootDefault
                else ((s.recordOf i).identity.map (·.bootAllowance)).getD 0) * 1000)
             else none) ∧
          KeepsGrant i s t ∧ Shows i false true 15 .off t ∧ CueOnWay i .retireDenied t ∧
          t.attention.entry (.slot i .retireRequest) =
            { s.attention.entry (.slot i .retireRequest) with
              pending := false
              repeated :=
                if (s.attention.entry (.slot i .retireRequest)).pending = true then false
                else (s.attention.entry (.slot i .retireRequest)).repeated } ∧
          (∀ k : EventKey, k ≠ .slot i .retireRequest → t.attention.entry k = s.attention.entry k) ∧
          OthersKeep i s t ∧ SameShelf s t))

/-- A handle opened event (R44, R54 to R56, R112): in service it is a retirement request, which without an ACTIVE link may
add the slot to the batch on its own (R132, R164); in BUDGET_WAIT and QUEUED it withdraws the slot to IDENTIFIED with its
grant released; in CHARGING and COOLING it ends the power-up in VACANT_READY, in STABILIZING through POWERING_DOWN. -/
def Obligations.HandleOpenedRetiresOrAbandons : Prop :=
  ∀ (s : State) (i : SlotId), Running s → (s.slot i).cond.handle.isSome = true →
    (s.slot i).lines.hdl = (s.recordOf i).policy.openPolarity → (s.recordOf i).handleClosed = true →
    (∀ prior : ReturnState, s.stateOf i = prior.toState → (s.slot i).lines.fltL = .high →
      ¬ AutoAdds i s →
      ∃ t, exec (.handleSettleExpiry i) s = .next t ∧ t.stateOf i = .retirePending ∧
        (t.recordOf i).priorState = some prior ∧ (t.recordOf i).phaseTimer = none ∧
        (t.recordOf i).handleClosed = false ∧ (t.recordOf i).batchMember = (s.recordOf i).batchMember ∧
        KeepsGrant i s t ∧ Shows i false true 15 .slowBlink t ∧
        OnlyPosted (.slot i .retireRequest) (.request .handle) s t ∧
        t.links = s.links.map (fun e =>
          if e.touches i && e.linkState == .joining then
            { e with linkState := .open, linkUp := .none, settle := none, held := false }
          else e) ∧
        t.power = offLists i s.power ∧ OthersKeep i s t ∧ SameShelf s t) ∧
    (∀ prior : ReturnState, s.stateOf i = prior.toState → (s.slot i).lines.fltL = .high → AutoAdds i s →
      ∃ t, exec (.handleSettleExpiry i) s = .next t ∧ t.stateOf i = .retirePending ∧
        (t.recordOf i).priorState = some prior ∧ (t.recordOf i).handleClosed = false ∧
        (t.recordOf i).batchMember = true ∧ KeepsGrant i s t ∧ Shows i false true 15 .slowBlink t ∧
        OnlyPosted (.slot i .retireRequest) (.request .handle) s t ∧ t.batch = autoBatch [i] s ∧
        EpisodeEnters [i] s.episode t.episode ∧ t.power = offLists i s.power ∧ OthersKeep i s t ∧
        t.settings = s.settings ∧ t.elapsed = s.elapsed ∧ t.shelf = s.shelf) ∧
    ((s.stateOf i = .budgetWait ∨ s.stateOf i = .queued) → NoOtherWaits i s →
      ∃ t, exec (.handleSettleExpiry i) s = .next t ∧ t.stateOf i = .identified ∧
        (t.recordOf i).handleClosed = false ∧ (t.recordOf i).power = none ∧ (t.recordOf i).phaseTimer = none ∧
        (t.recordOf i).retriesUsed = 0 ∧ (t.recordOf i).identity = (s.recordOf i).identity ∧
        (t.recordOf i).approved = (s.recordOf i).approved ∧ Shows i false false 0 .on t ∧
        i ∉ t.power.waitList ∧ i ∉ t.power.permitQueue ∧
        t.power.sumOfGrants = s.power.sumOfGrants - (s.recordOf i).reservedGrant ∧
        Posted (.slot i .identified) (.leftState (s.stateOf i)) s t ∧
        (∀ k : EventKey, k ≠ .slot i .identified → k ≠ .shelf .budget →
          t.attention.entry k = s.attention.entry k) ∧
        OnlySlot i s t) ∧
    ((s.stateOf i = .charging ∨ s.stateOf i = .cooling) → NoneWaiting s →
      ∃ t, exec (.handleSettleExpiry i) s = .next t ∧ Vacated i s t ∧ (t.recordOf i).handleClosed = false ∧
        i ∉ t.power.holders) ∧
    (s.stateOf i = .stabilizing →
      ∃ t, exec (.handleSettleExpiry i) s = .next t ∧ t.stateOf i = .poweringDown ∧
        (t.recordOf i).phaseTimer = some s.settings.powerOffTime ∧ (t.recordOf i).handleClosed = false ∧
        (t.recordOf i).identity = (s.recordOf i).identity ∧ KeepsGrant i s t ∧ Shows i false false 0 .slowBlink t ∧
        (t.slot i).chan.cueQueue = [] ∧ t.attention = s.attention ∧ OnlySlot i s t ∧ t.power = offLists i s.power)

/-! ## Power -/

/-- SUPPLY_LOW_SETTLE_EXPIRY (R26, R76, R77): a level newly ASSERTED backs off every slot in CHARGING to QUEUED, its grant
and stamp kept, and posts SUPPLY; one newly REMOVED posts SUPPLY; an unchanged level is no event. -/
def Obligations.SupplyLowBacksOffCharging : Prop :=
  ∀ s : State, Running s → s.shelf.supplySettle.isSome = true → ListsFollow s →
    (decide (s.shelf.supplyLow = .high) = s.shelf.supplyAsserted →
      exec .supplyLowSettleExpiry s = .next { s with shelf := { s.shelf with supplySettle := none } }) ∧
    (s.shelf.supplyLow = .high → s.shelf.supplyAsserted = false →
      ∃ t, exec .supplyLowSettleExpiry s = .next t ∧
        t.shelf = { s.shelf with supplySettle := none, supplyAsserted := true } ∧ t.power.holders = [] ∧
        (∀ i : SlotId, s.stateOf i = .charging →
          t.stateOf i = .queued ∧ i ∈ t.power.permitQueue ∧ (t.recordOf i).phaseTimer = none ∧
            Shows i false false 0 .off t ∧ KeepsGrant i s t ∧
            (t.recordOf i).retriesUsed = (s.recordOf i).retriesUsed) ∧
        (∀ i : SlotId, s.stateOf i ≠ .charging → t.slot i = s.slot i) ∧
        OnlyPosted (.shelf .supply) (.supply false) s t ∧ t.links = s.links ∧ t.settings = s.settings ∧
        t.batch = s.batch ∧ t.power.waitList = s.power.waitList ∧ t.power.freeze = s.power.freeze) ∧
    (s.shelf.supplyLow = .low → s.shelf.supplyAsserted = true → s.power.permitQueue = [] →
      ∃ t, exec .supplyLowSettleExpiry s = .next t ∧
        t.shelf = { s.shelf with supplySettle := none, supplyAsserted := false } ∧
        OnlyPosted (.shelf .supply) (.supply true) s t ∧ t.slots = s.slots ∧ t.power = s.power ∧ t.links = s.links ∧
        t.batch = s.batch ∧ t.settings = s.settings)

/-- PGOOD_ROSE in CHARGING (R46) and the end of the stabilize time with PGOOD high (R50, R51): to STABILIZING with the
permit released, then to POWERED with the boot timer at full length. FLT_L is high, and no slot waits for a permit. -/
def Obligations.PowerGoodBringsTheSlotUp : Prop :=
  ∀ (s : State) (i : SlotId), (s.slot i).lines.fltL = .high → s.power.permitQueue = [] →
    (s.shelf.inReset = false → s.stateOf i = .charging →
      ∃ t, exec (.pgoodRose i) s = .next t ∧ t.stateOf i = .stabilizing ∧ (t.recordOf i).phaseTimer = some 20 ∧
        Shows i false true 15 .off t ∧ KeepsGrant i s t ∧ KeepsRecord i s t ∧
        (t.recordOf i).retriesUsed = (s.recordOf i).retriesUsed ∧
        (t.recordOf i).identity = (s.recordOf i).identity ∧
        (t.slot i).lines = { (s.slot i).lines with pgood := .high } ∧ t.attention = s.attention ∧ OnlySlot i s t ∧
        t.power = offLists i s.power) ∧
    (Running s → PhaseRuns i .stabilizing s → (s.slot i).lines.pgood = .high →
      ∃ t, exec (.stabilizeTimeExpiry i) s = .next t ∧ t.stateOf i = .powered ∧
        (t.recordOf i).phaseTimer =
          some (min 600 (if ((s.recordOf i).identity.map (·.bootAllowance)).getD 0 = 0
            then (s.recordOf i).policy.bootDefault
            else ((s.recordOf i).identity.map (·.bootAllowance)).getD 0) * 1000) ∧
        (t.recordOf i).retriesUsed = 0 ∧ Shows i false true 15 .off t ∧ KeepsGrant i s t ∧ KeepsRecord i s t ∧
        (t.recordOf i).identity = (s.recordOf i).identity ∧ (t.slot i).lines = (s.slot i).lines ∧
        ((s.slot i).lines.ntfyL = .high → (t.slot i).chan = (s.slot i).chan) ∧ t.attention = s.attention ∧
        OnlySlot i s t ∧ t.power = offLists i s.power)

/-- FAULT_ASSERTED and PGOOD_FELL in the running states (R134 to R136): a run fault. The slot is FAULTED with RUN_FAULT,
its lanes open, its grant released, and POWER_FAULT (RUN) is posted, with a storm where one is due (R143, R144). A member
is given FAULTED, which may end its batch in DONE_FAULT (R126, R127). -/
def Obligations.RunFaultsStopTheSlot : Prop :=
  ∀ (s : State) (i : SlotId) (c : Instr), (c = .faultAsserted i .low ∨ c = .pgoodFell i) →
    s.shelf.inReset = false →
    s.stateOf i ∈ [SlotState.powered, .inService, .retirePending, .draining, .isolating, .recovering] →
    OutputsFollow s → NoneWaiting s → PairsOnce s →
    ∃ t, exec c s = .next t ∧ Faulted i .runFault s t ∧ LanesOpen i t ∧
      Posted (.slot i .powerFault) (.fault .run) s t ∧ (StormDue i s → Stormed i s t) ∧
      OutcomeGiven i .faulted s t ∧ BatchGoesOn i s t ∧ (Alone i s → OthersKeep i s t ∧ SameShelf s t)

/-- An inrush fault (R47, R48, R50): FAULT_ASSERTED or CHARGE_TIMEOUT in CHARGING; FAULT_ASSERTED, PGOOD_FELL or the end
of the stabilize time with PGOOD low in STABILIZING. POWER_FAULT (INRUSH) makes a storm where one is due (R143, R144). -/
def Obligations.InrushFaultsRetryOrStop : Prop :=
  ∀ (s : State) (i : SlotId) (c : Instr), NoneWaiting s →
    ((c = .faultAsserted i .low ∧ s.shelf.inReset = false ∧
        (s.stateOf i = .charging ∨ s.stateOf i = .stabilizing)) ∨
      (c = .chargeTimeout i ∧ Running s ∧ PhaseRuns i .charging s) ∨
      (c = .pgoodFell i ∧ s.shelf.inReset = false ∧ s.stateOf i = .stabilizing) ∨
      (c = .stabilizeTimeExpiry i ∧ Running s ∧ PhaseRuns i .stabilizing s ∧ (s.slot i).lines.pgood = .low)) →
    ∃ t, exec c s = .next t ∧ InrushFaulted i s t ∧ (s.openMember i = false → t.links = s.links) ∧
      (StormDue i s → Stormed i s t) ∧
      (Alone i s → OtherSlots i s t ∧ SameShelf s t)

/-- COOL_DOWN_EXPIRY (R49, R68, R70, R72): back to QUEUED with a new join stamp and the same grant; under a freeze it
waits there, and where the arbiter can grant it goes on to CHARGING (R45, R30). -/
def Obligations.CoolDownEndsInTheQueue : Prop :=
  ∀ (s : State) (i : SlotId) (p : PowerPart), Running s → PhaseRuns i .cooling s → (s.recordOf i).power = some p →
    s.power.stampCounter ≤ 4294967295 →
    (s.power.freeze = true →
      ∃ t, exec (.coolDownExpiry i) s = .next t ∧ t.stateOf i = .queued ∧ (t.recordOf i).phaseTimer = none ∧
        (t.recordOf i).power = some { p with joinStamp := some s.power.stampCounter, permitHeld := false } ∧
        t.power.stampCounter = min 4294967295 (s.power.stampCounter + 1) ∧
        (t.recordOf i).retriesUsed = (s.recordOf i).retriesUsed ∧ Shows i false false 0 .off t ∧
        i ∈ t.power.permitQueue ∧ without i t.power.permitQueue = without i s.power.permitQueue ∧
        t.power.sumOfGrants = s.power.sumOfGrants ∧ KeepsRecord i s t ∧ t.attention = s.attention ∧ OnlySlot i s t) ∧
    (∀ b : Identity, s.power.freeze = false → s.shelf.supplyAsserted = false →
      s.power.holders.length < s.settings.permitLimit → s.power.permitQueue = [] →
      (s.recordOf i).policy.priority ≠ 0 → (s.slot i).lines.fltL = .high → (s.recordOf i).identity = some b →
      ∃ t, exec (.coolDownExpiry i) s = .next t ∧ t.stateOf i = .charging ∧
        (t.recordOf i).phaseTimer = some (s.recordOf i).policy.chargeTimeout ∧
        (t.recordOf i).power = some { p with joinStamp := some s.power.stampCounter, permitHeld := true } ∧
        (t.recordOf i).retriesUsed = (s.recordOf i).retriesUsed ∧
        Shows i true false (min (s.recordOf i).policy.inrushLimit b.inrushClass) .off t ∧ i ∈ t.power.holders ∧
        t.power.permitQueue = [] ∧ t.power.sumOfGrants = s.power.sumOfGrants ∧ t.attention = s.attention ∧
        OnlySlot i s t)

/-- BOOT_TIMEOUT (R53), and the ends of a power-down (R57, R125, R141): PGOOD_FELL in POWERING_DOWN, and
POWER_OFF_TIMER_EXPIRY with PGOOD low or high. A member is given FAULTED, RETIRED or STUCK, and the batch ends with its
last outcome (R126, R127); a batch that ends DONE with no link ACTIVE may be followed by one of its own (R132). The two
faults make a storm where one is due (R143, R144). -/
def Obligations.BootAndPowerOffEnd : Prop :=
  ∀ (s : State) (i : SlotId),
    (Running s → PhaseRuns i .powered s → NoneWaiting s →
      ∃ t, exec (.bootTimeout i) s = .next t ∧ Faulted i .bootTimeout s t ∧
        Posted (.slot i .powerFault) (.fault .bootTimeout) s t ∧ (s.openMember i = false → t.links = s.links) ∧
        (StormDue i s → Stormed i s t) ∧ OutcomeGiven i .faulted s t ∧ BatchGoesOn i s t ∧
        (Alone i s → OtherSlots i s t ∧ SameShelf s t)) ∧
    (s.shelf.inReset = false → s.stateOf i = .poweringDown → NoneWaiting s →
      ∃ t, exec (.pgoodFell i) s = .next t ∧ Vacated i s t ∧ (NoAutoBatch i s → OutcomeGiven i .retired s t) ∧
        AutoBatchFollows i s t ∧ BatchGoesOn i s t ∧ (Alone i s → OtherSlots i s t ∧ SameShelf s t)) ∧
    (Running s → PhaseRuns i .poweringDown s → NoneWaiting s → (s.slot i).lines.pgood = .low →
      ∃ t, exec (.powerOffTimerExpiry i) s = .next t ∧ Vacated i s t ∧
        (NoAutoBatch i s → OutcomeGiven i .retired s t) ∧ AutoBatchFollows i s t ∧ BatchGoesOn i s t ∧
        (Alone i s → OtherSlots i s t ∧ SameShelf s t)) ∧
    (Running s → PhaseRuns i .poweringDown s → (s.slot i).lines.pgood = .high →
      ∃ t, exec (.powerOffTimerExpiry i) s = .next t ∧ t.stateOf i = .stuck ∧ (t.recordOf i).reason = some .stuck ∧
        (t.recordOf i).faultOutstanding = true ∧ (t.recordOf i).phaseTimer = none ∧ KeepsGrant i s t ∧
        Shows i false false 0 .fastBlink t ∧ Posted (.slot i .powerFault) (.fault .stuck) s t ∧
        (StormDue i s → Stormed i s t) ∧ OutcomeGiven i .stuck s t ∧ BatchGoesOn i s t ∧
        (Alone i s → OtherSlots i s t ∧ SameShelf s t))

/-! ## Retirement timers and lanes -/

/-- DRAIN_DEADLINE_EXPIRY (R122 to R124): with force ON the member goes to ISOLATING with its lanes open and its warning
offered; with force OFF it goes back to its return state with outcome DRAIN_TIMEOUT, the number of entries still
DRAIN_ASKED posted, and the batch ends in DONE_FAULT with its last outcome (R127). -/
def Obligations.DrainDeadlineForcesOrReturns : Prop :=
  ∀ (s : State) (i : SlotId) (m : Member), Running s → PhaseRuns i .draining s → s.memberOf i = some m →
    OutputsFollow s → PairsOnce s →
    (m.force = true →
      ∃ t, exec (.drainDeadlineExpiry i) s = .next t ∧ t.stateOf i = .isolating ∧
        (t.recordOf i).phaseTimer = some s.settings.laneSettle ∧ LanesOpen i t ∧ KeepsGrant i s t ∧
        Shows i false true 15 .slowBlink t ∧
        CueOnWay i .powerOffWarning t) ∧
    (∀ r : ReturnState, m.force = false → m.outcome = none → m.returnState = some r →
      ∃ t, exec (.drainDeadlineExpiry i) s = .next t ∧ t.stateOf i = r.toState ∧
        OutcomeGiven i .drainTimeout s t ∧ BatchGoesOn i s t ∧
        t.memberOf i = some { m with outcome := some .drainTimeout } ∧ (t.recordOf i).batchMember = false ∧
        KeepsGrant i s t ∧ Shows i false true 15 .off t ∧
        Posted (.slot i .drainTimeout) (.count (s.askedCount i)) s t ∧
        (∀ e ∈ t.links, e.touches i = true → s.stateOf (e.otherEnd i) ≠ .draining → r = .inService →
          e.linkState ≠ .drainAsked ∧ e.linkState ≠ .drained))

/-- The lane settle timers: in ISOLATING (R124) the slot goes to POWERING_DOWN once the warning is written or the channel
lost, and else waits; of an entry (R100) the entry is JOINED and LINK_UP offered to the payload. -/
def Obligations.LaneSettleEnds : Prop :=
  (∀ (s : State) (i : SlotId), Running s → PhaseRuns i .isolating s →
    ((s.recordOf i).warningWritten = true ∨ (s.recordOf i).channelLost = true →
      ∃ t, exec (.isolatingLaneSettleExpiry i) s = .next t ∧ t.stateOf i = .poweringDown ∧
        (t.recordOf i).phaseTimer = some s.settings.powerOffTime ∧ KeepsGrant i s t ∧
        Shows i false false 0 .slowBlink t ∧ (t.slot i).chan.cueQueue = [] ∧
        (t.slot i).chan.noticePending = false ∧ (t.slot i).chan.pause = none ∧
        (t.recordOf i).batchMember = (s.recordOf i).batchMember ∧ t.attention = s.attention ∧ OnlySlot i s t ∧
        t.power = offLists i s.power) ∧
    ((s.recordOf i).warningWritten = false → (s.recordOf i).channelLost = false →
      exec (.isolatingLaneSettleExpiry i) s = .next (s.modRecord i fun r => { r with phaseTimer := none }))) ∧
  (∀ (s : State) (p : SlotId) (h : HubName) (e : LinkEntry), Running s → s.settling p h = some e → PairsOnce s →
    ∃ t, exec (.entryLaneSettleExpiry p h) s = .next t ∧
      t.links = s.links.map (fun x =>
        if x.payload == p && x.hubSlot == e.hubSlot then
          { x with
            linkState := .joined, settle := none
            linkUp := if (s.stateOf p).conversing = true then .offered else .none }
        else x) ∧
      ((s.stateOf p).conversing = false → (t.slot p).chan = (s.slot p).chan) ∧
      ((s.stateOf p).conversing = true → CueOnWay p (.linkUp e.hubSlot) t) ∧
      OthersKeep p s t ∧ t.recordOf p = s.recordOf p ∧ t.attention = s.attention ∧ t.power = s.power ∧ SameShelf s t)

/-- GATHER_WINDOW_EXPIRY (R120): the batch is RUNNING and every member not yet started is started, its return state kept
and its drain deadline started. Its JOINED entries are asked to drain and its JOINING ones are OPEN (R102); one left with
no entry DRAIN_ASKED is drained at once and goes on to ISOLATING (R105, R121). A batch whose every member has its outcome
ends (R119, R127). -/
def Obligations.GatherWindowStartsTheMembers : Prop :=
  ∀ s : State, Running s → s.batch.state = .gathering → s.batch.window.isSome = true →
    ((s.batch.members.map (·.slot)).Nodup → (∀ i : SlotId, (s.slot i).lines.fltL = .high) →
      (∃ m ∈ s.batch.members, m.started = false ∧ m.outcome = none) →
      (∀ m ∈ s.batch.members, m.started = false → m.outcome = none → Startable s m) →
      ∃ t, exec .gatherWindowExpiry s = .next t ∧ t.batch.state = .running ∧ t.batch.window = none ∧
        ∀ m ∈ s.batch.members, m.started = false → m.outcome = none →
          MemberStarted s t m ∧ (PairsOnce s → LanesAsked s t m)) ∧
    ((∀ m ∈ s.batch.members, m.outcome.isSome = true) → NoAutoAtEnd s →
      ∃ t, exec .gatherWindowExpiry s = .next t ∧ BatchEnded (anyFailed s) s t ∧ t.batch.window = none ∧
        t.batch.members = s.batch.members ∧ t.slots = s.slots ∧ t.links = s.links ∧ t.power = s.power ∧
        t.settings = s.settings ∧ t.episode = s.episode)

/-- CHANNEL_LOST_PAUSE_EXPIRY (R83, R89), HOLDOFF_EXPIRY (R150, R153) and LED_BLINK_TOGGLE (R31). -/
def Obligations.ShortTimersEnd : Prop :=
  ∀ (s : State) (i : SlotId) (l : Link), Running s →
    ((s.slot i).chan.pause.isSome = true → (s.slot i).chan.transfer = none →
      ∃ t, exec (.channelLostPauseExpiry i) s = .next t ∧
        Chosen { (s.slot i).chan with pause := none } (t.slot i).chan ∧ t.recordOf i = s.recordOf i ∧
        OnlySlot i s t ∧ t.power = s.power ∧ t.attention = s.attention) ∧
    ((s.port l).holdoff.isSome = true →
      ∃ t, exec (.holdoffExpiry l) s = .next t ∧ t.port l = { s.port l with holdoff := none } ∧
        t.port l.other = s.port l.other ∧ t.slots = s.slots ∧ t.power = s.power ∧
        (∀ k : EventKey, t.attention.entry k = s.attention.entry k) ∧ t.attention.levels = s.attention.levels ∧
        t.attention.attnA = attnLevel t .a ∧ t.attention.attnB = attnLevel t .b) ∧
    ((s.slot i).out.blink.isSome = true →
      exec (.ledBlinkToggle i) s =
        .next (s.modOut i fun o =>
          { o with
            lit := !o.lit
            blink :=
              match o.led with
              | .slowBlink => some 500
              | .fastBlink => some 125
              | _ => none }))

/-- SUPERVISION_EXPIRY (R161): the ACTIVE link falls SILENT with its service state cleared, LINK (SILENT) is posted, and
an episode opens or, if one is open, goes on with its end of silence absent. With no link ACTIVE any longer, the slots
that wait to retire on their own are added to the batch and entered in the episode (R132, R164). -/
def Obligations.SilenceOpensAnEpisode : Prop :=
  ∀ (s : State) (l : Link), Running s → (s.port l).role = .active → (s.port l).supervision.isSome = true →
    ((∀ i : SlotId, (s.recordOf i).policy.autoRetire = false) →
    ∃ t, exec (.supervisionExpiry l) s = .next t ∧
      t.port l =
        { s.port l with role := .silent, supervision := none, level := 0, stack := [], holdoff := none } ∧
      t.port l.other = s.port l.other ∧
      t.episode =
        (if s.episode.state = .open then { s.episode with endOfSilence := none }
         else { state := .open, silentLink := some l, start := some s.elapsed, endOfSilence := none, retired := [] }) ∧
      OnlyPosted (.shelf .link) (.link .silent l) s t ∧ t.slots = s.slots ∧ t.links = s.links ∧ t.power = s.power ∧
      t.batch = s.batch ∧ t.settings = s.settings ∧ t.elapsed = s.elapsed ∧ t.shelf = s.shelf) ∧
    ((s.port l.other).role ≠ .active →
      ∃ t, exec (.supervisionExpiry l) s = .next t ∧
        t.port l =
          { s.port l with role := .silent, supervision := none, level := 0, stack := [], holdoff := none } ∧
        t.port l.other = s.port l.other ∧
        AutoAdded (autoSlots s.batch.state s)
          (if s.episode.state = .open then { s.episode with endOfSilence := none }
           else { state := .open, silentLink := some l, start := some s.elapsed, endOfSilence := none, retired := [] })
          s t ∧
        OnlyPosted (.shelf .link) (.link .silent l) s t ∧ t.power = s.power ∧ t.settings = s.settings ∧
        t.elapsed = s.elapsed ∧ t.shelf = s.shelf)

/-! ## The slot channel -/

/-- IDENTITY_READ_COMPLETE in IDENTIFYING (R38, R39, R84, R175): a failed check is tried again, and after the third
attempt the slot is REJECTED with ID_UNREADABLE; a field outside its set gives ID_FORMAT; a good block is kept and
vetted, and passes to IDENTIFIED where it cannot ask for a grant yet. -/
def Obligations.IdentityReadsAreVetted : Prop :=
  ∀ (s : State) (i : SlotId) (block : Vector Byte 32) (n : Nat),
    (s.slot i).chan.transfer = some { kind := .identityRead, attempt := n } → s.stateOf i = .identifying →
    (s.recordOf i).power = none → (s.recordOf i).channelLost = false →
    (blockChecks block = false → n < 3 →
      exec (.identityReadComplete i block) s =
        .next (s.modChan i fun c => { c with transfer := some { kind := .identityRead, attempt := n + 1 } })) ∧
    (∀ why : ReasonCode,
      ((blockChecks block = false ∧ 3 ≤ n ∧ why = .idUnreadable) ∨
        (blockChecks block = true ∧ blockFields block = none ∧ why = .idFormat)) →
      ∃ t, exec (.identityReadComplete i block) s = .next t ∧ t.stateOf i = .rejected ∧
        (t.recordOf i).reason = some why ∧ (t.recordOf i).identity = (s.recordOf i).identity ∧
        (t.recordOf i).approved = false ∧ Shows i false false 0 .on t ∧
        OnlyPosted (.slot i .rejected) (.reason why) s t ∧ (t.slot i).chan.identityDue = false ∧ OnlySlot i s t ∧
        t.power = offLists i s.power) ∧
    (∀ b : Identity, blockChecks block = true → blockFields block = some b →
      (∀ why : ReasonCode,
        ((kindSuits (s.roleOf i) b.kind = false ∧ why = .roleMismatch) ∨
          (kindSuits (s.roleOf i) b.kind = true ∧ s.fabricSuits i b.fabric = false ∧ why = .noFabric) ∨
          (kindSuits (s.roleOf i) b.kind = true ∧ s.fabricSuits i b.fabric = true ∧
            (s.recordOf i).policy.slotCap < (grantFor b.demand s.settings.margin s.settings.floor).1 ∧
            why = .overCap)) →
        ∃ t, exec (.identityReadComplete i block) s = .next t ∧ t.stateOf i = .rejected ∧
          (t.recordOf i).reason = some why ∧ (t.recordOf i).identity = some b ∧ (t.recordOf i).power = none ∧
          Shows i false false 0 .on t ∧ OnlyPosted (.slot i .rejected) (.reason why) s t ∧ OnlySlot i s t) ∧
      (kindSuits (s.roleOf i) b.kind = true → s.fabricSuits i b.fabric = true →
        (grantFor b.demand s.settings.margin s.settings.floor).1 ≤ (s.recordOf i).policy.slotCap →
        ((s.recordOf i).handleClosed = false ∨
          ((s.recordOf i).policy.admitMode = .held ∧ (s.recordOf i).approved = false)) →
        ∃ t, exec (.identityReadComplete i block) s = .next t ∧ t.stateOf i = .identified ∧
          (t.recordOf i).identity = some b ∧ (t.recordOf i).power = none ∧
          (t.recordOf i).floorApplied = (grantFor b.demand s.settings.margin s.settings.floor).2 ∧
          Shows i false false 0 .on t ∧ OnlyPosted (.slot i .identified) (.leftState .identifying) s t ∧
          (t.slot i).chan.identityDue = false ∧ OnlySlot i s t ∧ t.power = offLists i s.power))

/-- The end of a re-read in RECOVERING (R172): the blade is adopted at its grant, or at the slot cap where it could not be
read or asks for more, whatever the budget; with lane evidence in IN_SERVICE, without in POWERED, and on to
RETIRE_PENDING where the handle is open. -/
def Obligations.AdoptionReservesAGrant : Prop :=
  ∀ (s : State) (i : SlotId) (c : Instr) (n : Nat) (block : Vector Byte 32) (read : Option Identity) (g : Nat),
    (s.slot i).chan.transfer = some { kind := .identityRead, attempt := n } → s.stateOf i = .recovering →
    (s.slot i).lines.fltL = .high → (s.recordOf i).channelLost = false →
    ((c = .noAnswer i ∧ 3 ≤ n ∧ read = none) ∨
      (c = .identityReadComplete i block ∧ blockChecks block = true ∧ blockFields block = read)) →
    g = (match read with
      | some b => min (s.recordOf i).policy.slotCap (grantFor b.demand s.settings.margin s.settings.floor).1
      | none => (s.recordOf i).policy.slotCap) →
    ∃ t, exec c s = .next t ∧
      t.stateOf i =
        (if (s.recordOf i).handleClosed = false then .retirePending
         else if (s.recordOf i).laneEvidence = true then .inService else .powered) ∧
      (t.recordOf i).priorState =
        (if (s.recordOf i).handleClosed = true then none
         else if (s.recordOf i).laneEvidence = true then some .inService else some .powered) ∧
      (t.recordOf i).identity = read ∧
      (t.recordOf i).power = some { grant := g, reserved := true, joinStamp := none, permitHeld := false } ∧
      t.power.sumOfGrants = s.power.sumOfGrants + g ∧
      t.power.deficit = (s.power.deficit || decide (s.settings.budget < s.power.sumOfGrants + g)) ∧
      ((s.recordOf i).idUnverified = false →
        (t.recordOf i).idUnverified =
          (match read with
            | some b => decide ((s.recordOf i).policy.slotCap <
                (grantFor b.demand s.settings.margin s.settings.floor).1)
            | none => true)) ∧
      (t.slot i).out.mainEn = true ∧ (t.recordOf i).adopted = (s.recordOf i).adopted ∧
      ((s.recordOf i).laneEvidence = true → Posted (.slot i .inService) (.inService true) s t) ∧
      ((s.recordOf i).handleClosed = false → Posted (.slot i .retireRequest) (.request .handle) s t) ∧
      (s.power.deficit = false → s.settings.budget < s.power.sumOfGrants + g →
        Posted (.shelf .budget) (.budget false) s t)

/-- NOTICE_READ_COMPLETE (R52, R86 to R89, R104, R112): READY, RETIRE_ASK, DRAIN_DONE, NOTHING, and HEALTH or an
unrecognised code; a DRAIN_DONE for the last entry a member of a RUNNING batch waits for sends it to ISOLATING (R104, R105,
R121); a notice read is the kind last served, it follows again while NTFY_L is low, and it ends a channel
loss. -/
def Obligations.NoticesReachTheirBlocks : Prop :=
  ∀ (s : State) (i : SlotId) (code arg : Byte), s.inFlight i = some .noticeRead →
    (∃ t, exec (.noticeReadComplete i code arg) s = .next t ∧ (t.recordOf i).channelLost = false ∧
      ((s.recordOf i).channelLost = true → Posted (.slot i .channel) (.channel true) s t)) ∧
    ((s.recordOf i).channelLost = false →
      (code = 0 →
        (s.slot i).chan.pause = none →
        ∃ t, exec (.noticeReadComplete i code arg) s = .next t ∧ t.recordOf i = s.recordOf i ∧
          Chosen
            { (s.slot i).chan with
              transfer := none, lastServed := .notice
              noticePending := (s.slot i).chan.noticePending ||
                ((s.stateOf i).conversing && (s.slot i).lines.ntfyL == .low) }
            (t.slot i).chan ∧
          OnlySlot i s t ∧ t.power = s.power ∧ t.attention = s.attention) ∧
      (4 ≤ code.toNat →
        ∃ t, exec (.noticeReadComplete i code arg) s = .next t ∧
          t.recordOf i = { s.recordOf i with lastNotice := some { code := code, arg := arg } } ∧
          OnlyPosted (.slot i .notice) (.notice code arg) s t ∧ OnlySlot i s t ∧ t.power = s.power) ∧
      (code = 1 → s.stateOf i = .powered → (s.slot i).lines.fltL = .high →
        ∃ t, exec (.noticeReadComplete i code arg) s = .next t ∧ t.stateOf i = .inService ∧
          (t.recordOf i).phaseTimer = none ∧ KeepsGrant i s t ∧ Shows i false true 15 .off t ∧
          OnlyPosted (.slot i .inService) (.inService false) s t ∧
          (∀ e ∈ s.links, e.touches i = true → e.linkState = .open → s.stateOf (e.otherEnd i) = .inService →
            e.payload ≠ e.hubSlot → (s.recordOf e.payload).maskNames e.hub = true →
            (s.recordOf e.payload).batchMember = false → (s.recordOf e.hubSlot).batchMember = false →
            { e with linkState := .joining, settle := some s.settings.laneSettle } ∈ t.links) ∧
          OthersKeep i s t ∧ SameShelf s t) ∧
      (∀ prior : ReturnState, code = 2 → s.stateOf i = prior.toState → (s.slot i).lines.fltL = .high →
        ¬ AutoAdds i s →
        ∃ t, exec (.noticeReadComplete i code arg) s = .next t ∧ t.stateOf i = .retirePending ∧
          (t.recordOf i).priorState = some prior ∧ OnlyPosted (.slot i .retireRequest) (.request .blade) s t ∧
          OthersKeep i s t ∧ SameShelf s t) ∧
      (∀ (h : SlotId) (e : LinkEntry), code = 3 → arg.toNat = slotNumber h → s.entry i h = some e →
        (e.linkState = .drainAsked →
          (s.batch.state ≠ .running ∨ ∀ x : SlotId, e.touches x = true → s.stateOf x = .draining →
            ∃ e' ∈ s.links, e'.touches x = true ∧ e'.isPair i h = false ∧ e'.linkState = .drainAsked) →
          ∃ t, exec (.noticeReadComplete i code arg) s = .next t ∧
            t.entry i h = some { e with linkState := .drained } ∧ OthersKeep i s t ∧ t.recordOf i = s.recordOf i ∧
            t.attention = s.attention ∧ SameShelf s t) ∧
        (e.linkState ≠ .drainAsked →
          ∃ t, exec (.noticeReadComplete i code arg) s = .next t ∧ t.links = s.links ∧ OnlySlot i s t ∧
            t.recordOf i = s.recordOf i ∧ t.attention = s.attention) ∧
        (∀ x : SlotId, e.linkState = .drainAsked → s.batch.state = .running → OutputsFollow s → PairsOnce s →
          e.touches x = true → s.stateOf x = .draining →
          (∀ e' ∈ s.links, e'.touches x = true → e'.linkState = .drainAsked → e'.isPair i h = true) →
          ∃ t, exec (.noticeReadComplete i code arg) s = .next t ∧ t.stateOf x = .isolating ∧
            (t.recordOf x).phaseTimer = some s.settings.laneSettle ∧ LanesOpen x t ∧ KeepsGrant x s t ∧
            Shows x false true 15 .slowBlink t ∧ CueOnWay x .powerOffWarning t ∧
            (t.recordOf x).batchMember = (s.recordOf x).batchMember ∧ t.batch = s.batch ∧
            t.attention = s.attention)))

/-- CUE_WRITE_COMPLETE (R92, R101, R124) and NO_ANSWER (R82, R88, R93): a written LINK_UP is DELIVERED unless its entry
is OPEN; a written POWER_OFF_WARNING lets ISOLATING pass; a no-answer is tried again, and the third loses the channel
with its work kept. -/
def Obligations.TransfersEndOrAreTriedAgain : Prop :=
  ∀ (s : State) (i : SlotId) (c : Cue) (k : TransferKind) (n : Nat),
    ((s.slot i).chan.transfer = some { kind := .cueWrite c, attempt := n } → (s.recordOf i).channelLost = false →
      (∀ (h : SlotId) (e : LinkEntry), c = .linkUp h → s.entry i h = some e → e.linkState ≠ .open → PairsOnce s →
        ∃ t, exec (.cueWriteComplete i) s = .next t ∧ t.entry i h = some { e with linkUp := .delivered } ∧
          t.recordOf i = s.recordOf i ∧ (t.slot i).chan.lastServed = .cue ∧ OthersKeep i s t ∧ SameShelf s t ∧
          t.attention = s.attention) ∧
      (c = .powerOffWarning → s.stateOf i = .isolating → (s.recordOf i).phaseTimer = none →
        ∃ t, exec (.cueWriteComplete i) s = .next t ∧ t.stateOf i = .poweringDown ∧
          (t.recordOf i).phaseTimer = some s.settings.powerOffTime ∧ Shows i false false 0 .slowBlink t ∧
          OnlySlot i s t) ∧
      (c = .powerOffWarning → s.stateOf i = .isolating → (s.recordOf i).phaseTimer.isSome = true →
        ∃ t, exec (.cueWriteComplete i) s = .next t ∧ t.recordOf i = { s.recordOf i with warningWritten := true } ∧
          OnlySlot i s t ∧ t.power = s.power) ∧
      (c = .retireAccepted ∨ c = .retireDenied ∨ c = .statusQuery →
        ∃ t, exec (.cueWriteComplete i) s = .next t ∧ t.recordOf i = s.recordOf i ∧
          (t.slot i).chan.lastServed = .cue ∧ OnlySlot i s t ∧ t.power = s.power ∧ t.attention = s.attention)) ∧
    ((s.slot i).chan.transfer = some { kind := k, attempt := n } → n < 3 →
      exec (.noAnswer i) s =
        .next (s.modChan i fun ch => { ch with transfer := some { kind := k, attempt := n + 1 } })) ∧
    ((s.slot i).chan.transfer = some { kind := k, attempt := n } → 3 ≤ n → s.stateOf i ≠ .isolating →
      ((k = .noticeRead →
        ∃ t, exec (.noAnswer i) s = .next t ∧
          (t.slot i).chan =
            { (s.slot i).chan with
              transfer := none, noticePending := true, lastServed := .notice, pause := some 1000 } ∧
          t.recordOf i = { s.recordOf i with channelLost := true } ∧
          (if (s.recordOf i).channelLost = true then t.attention = s.attention
           else OnlyPosted (.slot i .channel) (.channel false) s t) ∧ OnlySlot i s t ∧ t.power = s.power) ∧
      (k = .cueWrite c → (∀ d ∈ (s.slot i).chan.cueQueue, d.group ≠ c.group) →
        (∀ h : SlotId, c.group = .hub h → (s.entry i h).isSome = true) →
        ∃ t, exec (.noAnswer i) s = .next t ∧
          (t.slot i).chan =
            { (s.slot i).chan with
              transfer := none, cueQueue := c :: (s.slot i).chan.cueQueue, lastServed := .cue,
              pause := some 1000 } ∧
          t.recordOf i = { s.recordOf i with channelLost := true } ∧
          (if (s.recordOf i).channelLost = true then t.attention = s.attention
           else OnlyPosted (.slot i .channel) (.channel false) s t) ∧ OnlySlot i s t ∧ t.power = s.power)))


/-! ## Transactions -/

/-- SHORT_FRAME, NONE and UNKNOWN_COMMAND (R157 to R159, R162): a short frame only fetches; NONE counts for supervision,
ends a silence and fetches; an unknown code is answered so. A partly clocked response stays held, a fetched one goes. That
UNKNOWN_COMMAND with a code byte that names a command, which no transaction decodes to, is answered the same is MODEL'S
CHOICE (log entry 28). -/
def Obligations.FramesThatCarryNoCommand : Prop :=
  ∀ (s : State) (f : Frame) (n : Nat) (code : Byte),
    (s.shelf.inReset = false → (s.port f.link).inReset = false →
      exec (.shortFrame f.link n) s =
        .next (s.modPort f.link fun p => { p with held := p.held.filter fun r => decide (n < r.bytes.length) }) ∧
      (f.complete = false → ∀ row ∈ frameRows, exec (row.2 f) s = exec (.shortFrame f.link f.clocked) s)) ∧
    (Accepted f s → (s.port f.link).role ≠ .silent →
      exec (.noneFrame f) s =
        .next ((counted f.link s).modPort f.link fun p =>
          { p with held := p.held.filter fun r => decide (f.clocked < r.bytes.length) }) ∧
      exec (.unknownCommand code f) s = .next (answered code f .unknownCommand [] (counted f.link s))) ∧
    (Accepted f s → (s.port f.link).role = .silent →
      ∃ t, exec (.noneFrame f) s = .next t ∧
        t.port f.link =
          { s.port f.link with
            role := .active, supervision := some s.settings.supervisionTime, level := 0, stack := [], holdoff := none
            held := (s.port f.link).held.filter fun r => decide (f.clocked < r.bytes.length) } ∧
        t.port f.link.other = s.port f.link.other ∧ OnlyPosted (.shelf .link) (.link .resumed f.link) s t ∧
        t.episode =
          (if s.episode.state = .open then { s.episode with endOfSilence := some s.elapsed } else s.episode) ∧
        t.slots = s.slots ∧ t.links = s.links ∧ t.power = s.power ∧ t.batch = s.batch ∧ t.settings = s.settings ∧
        t.elapsed = s.elapsed ∧ t.shelf = s.shelf)

/-- The reads (R16, R79, R110, R133, R155, R164): accepted from a link in any role, a SILENT one becoming ACTIVE first
(R162), and under quarantine, they answer a snapshot and change nothing but what every accepted frame changes. Every
answer is written out field by field (section 12.4), and the snapshot of a slot has 81 bytes, its parts in their places. -/
def Obligations.ReadsAnswerSnapshots : Prop :=
  (∀ (s u : State) (f : Frame), Accepted f s → u = heard f.link s →
    (f.slot = 0 →
      exec (.readShelf f) s =
        .next (answered 0x03 f .ok
          ([two s.settings.budget, two s.settings.margin, two s.settings.floor, two s.settings.permitLimit,
            two s.settings.laneSettle, two s.settings.drainDeadline, two s.settings.powerOffTime,
            two s.settings.gatherWindow, two s.settings.supervisionTime, two s.power.sumOfGrants,
            [flag s.power.deficit, flag s.power.freeze, flag s.shelf.supplyAsserted, byte s.power.holders.length],
            four s.power.stampCounter].flatten) u) ∧
      exec (.readQueues f) s =
        .next (answered 0x04 f .ok
          ([byte s.power.waitList.length] ++
            (s.power.waitList.flatMap fun i =>
              [byte (slotNumber i)] ++ two (s.grantOf i) ++ four (s.stampOf i)) ++
            [byte s.power.permitQueue.length] ++
            (s.power.permitQueue.flatMap fun i =>
              [byte (slotNumber i), byte (s.recordOf i).policy.priority] ++ four (s.stampOf i) ++
                two (s.grantOf i)) ++
            [byte s.power.holders.length] ++
            (s.power.holders.flatMap fun i =>
              [byte (slotNumber i)] ++ four ((s.recordOf i).phaseTimer.getD 0))) u) ∧
      exec (.readBatch f) s =
        .next (answered 0x05 f .ok
          ([byte s.batch.state.code] ++ four (s.batch.window.getD 0) ++ [byte s.batch.members.length] ++
            (s.batch.members.flatMap fun m =>
              [byte (slotNumber m.slot), flag m.force, flag m.started,
                (m.returnState.map fun r => byte r.toState.code).getD 0xFF, byte (outcomeCode m.outcome)])) u) ∧
      exec (.readPending f) s =
        .next (answered 0x06 f .ok
          ([byte (allKeys.filter fun k => (u.attention.entry k).pending).length] ++
            ((allKeys.filter fun k => (u.attention.entry k).pending).flatMap fun k =>
              [byte k.slotNumber, byte k.eventClass.code, byte (s.attention.levels.level k.eventClass)] ++
                detailBytes (u.attention.entry k).detail ++ [flag (u.attention.entry k).repeated]) ++
            (eventClasses.map fun c => byte (s.attention.levels.level c)) ++
            ([u.portA, u.portB].flatMap fun p =>
              [byte p.level, byte p.stack.length] ++ p.stack.map byte ++ four (p.holdoff.getD 0))) u) ∧
      exec (.readEpisode f) s =
        .next (answered 0x07 f .ok
          ([byte u.episode.state.code, (u.episode.silentLink.map fun l => byte (linkCode l)).getD 0] ++
            four (u.episode.start.getD 0) ++
            four (if u.episode.state = .none then 0
              else (u.episode.endOfSilence.getD s.elapsed + 4294967296 - u.episode.start.getD 0) % 4294967296) ++
            [byte u.episode.retired.length] ++ u.episode.retired.map fun i => byte (slotNumber i)) u) ∧
      exec (.readLinks f) s =
        .next (answered 0x02 f .ok
          (tableBytes s.links ++ [slotByte (s.hubNamed .a), slotByte (s.hubNamed .b)]) u)) ∧
    (∀ i : SlotId, f.slot.toNat = slotNumber i →
      exec (.readSlot f) s = .next (answered 0x01 f .ok (slotSnapshot i s) u) ∧
      exec (.readLinks f) s =
        .next (answered 0x02 f .ok
          (tableBytes (s.links.filter fun e => e.payload == i || e.hubSlot == i) ++
            [slotByte (s.hubNamed .a), slotByte (s.hubNamed .b)]) u))) ∧
  (∀ (s : State) (i : SlotId), (s.slot i).chan.cueQueue.length ≤ 4 →
    slotData i s = slotSnapshot i s ∧ (slotData i s).length = 81 ∧ (slotData i s)[0]? = some (byte (slotNumber i)) ∧
      (slotData i s)[1]? = some (byte (s.roleOf i).code) ∧
      (slotData i s)[17]? = some (byte (s.stateOf i).code) ∧
      (slotData i s)[22]? = some (reasonByte (s.recordOf i).reason) ∧
      (slotData i s)[25]? = some (returnByte (s.recordOf i).priorState) ∧
      (slotData i s)[26]? = some (flag (s.recordOf i).identity.isSome) ∧
      (slotData i s)[69]? = some (byte (s.slot i).chan.cueQueue.length) ∧
      (slotData i s)[79]? = some (byte (s.slot i).out.ilim) ∧
      (slotData i s)[80]? = some (byte (s.slot i).out.led.code))

/-- Where frames are refused before any block acts (R158, R164, R3, R16 and the other owners' slot checks): NOT_ACTIVE,
QUARANTINED, BAD_FIELD for a long length, BAD_SLOT by each owner's own rule. Nothing changes but the port. BAD_FIELD for a
NONE of long length is MODEL'S CHOICE (log entry 9). -/
def Obligations.RefusedFramesChangeNothing : Prop :=
  ∀ (s : State) (f : Frame),
    (Accepted f s → ∀ row ∈ changeRows,
      ((s.port f.link).role = .standby → exec (row.2 f) s = .next (answered row.1 f .notActive [] s)) ∧
      ((s.port f.link).role = .active → s.episode.state = .open →
        exec (row.2 f) s = .next (Refused row.1 f .quarantined s)) ∧
      ((s.port f.link).role = .silent → s.episode.state = .open →
        exec (row.2 f) s = .next (answered row.1 f .quarantined [] (State.becomeActive f.link .resumed s)))) ∧
    (Taken f s → 12 < f.len.toNat → (s.port f.link).role ≠ .silent →
      (∀ row ∈ frameRows, exec (row.2 f) s = .next (answered row.1 f .badField [] (counted f.link s))) ∧
      ∀ code : Byte, exec (.unknownCommand code f) s = .next (answered code f .badField [] (counted f.link s))) ∧
    (∀ row ∈ shelfRows,
      (if row.1 = true then MayChange f s else Accepted f s ∧ (s.port f.link).role ≠ .silent) → f.slot ≠ 0 →
        exec (row.2.2 f) s = .next (answered row.2.1 f .badSlot [] (counted f.link s))) ∧
    (∀ row ∈ slotRows,
      (if row.1 = true then MayChange f s else Accepted f s ∧ (s.port f.link).role ≠ .silent) →
        (f.slot = 0 ∨ 16 < f.slot.toNat) →
        exec (row.2.2 f) s = .next (answered row.2.1 f .badSlot [] (counted f.link s))) ∧
    (Accepted f s → (s.port f.link).role ≠ .silent → 16 < f.slot.toNat →
      exec (.readLinks f) s = .next (answered 0x02 f .badSlot [] (counted f.link s)))

/-! ## Settings -/

/-- SET_POLICY without a role change (R3, R6): every field named holds its clamped value and is answered in frame order,
every other keeps its value; a changed polarity starts the handle filter, a changed priority sorts the queue again, and
AUTO approves an identified slot. A frame that fails a check is refused. -/
def Obligations.SetPolicyWritesFields : Prop :=
  ∀ (s : State) (f : Frame) (i : SlotId), MayChange f s → f.slot.toNat = slotNumber i →
    (policyFields f.params = none → exec (.setPolicy f) s = .next (Refused 0x10 f .badField s)) ∧
    (∀ (l : List (PolicyField × Nat)) (r : Role), policyFields f.params = some l → roleIn l = some r →
      r ≠ s.roleOf i →
      (s.stateOf i ∉ [SlotState.empty, .identified, .rejected, .vacantReady, .faulted] →
        exec (.setPolicy f) s = .next (Refused 0x10 f .wrongState s)) ∧
      (s.stateOf i ∈ [SlotState.empty, .identified, .rejected, .vacantReady, .faulted] → r = .hub →
        2 ≤ (allSlots.filter fun j => decide (j ≠ i) && s.roleOf j == .hub).length →
        exec (.setPolicy f) s = .next (Refused 0x10 f .hubLimit s))) ∧
    (∀ l : List (PolicyField × Nat), policyFields f.params = some l →
      (roleIn l = none ∨ roleIn l = some (s.roleOf i)) →
      (s.stateOf i ≠ .identified ∨ ∀ fv ∈ l, fv.1 ≠ .admitMode) →
      (s.stateOf i ≠ .queued ∨ s.power.freeze = true) →
      ∃ t, exec (.setPolicy f) s = .next t ∧
        (∀ fv ∈ l, (t.recordOf i).policy.read fv.1 = max fv.1.range.1 (min fv.1.range.2 fv.2)) ∧
        (∀ fld : PolicyField, (∀ fv ∈ l, fv.1 ≠ fld) →
          (t.recordOf i).policy.read fld = (s.recordOf i).policy.read fld) ∧
        t.slot i =
          { s.slot i with
            record := { s.recordOf i with policy := (t.recordOf i).policy }
            cond :=
              if (t.recordOf i).policy.openPolarity = (s.recordOf i).policy.openPolarity then (s.slot i).cond
              else { (s.slot i).cond with handle := some 16 } } ∧
        (s.stateOf i ≠ .queued ∨ (t.recordOf i).policy.priority = (s.recordOf i).policy.priority →
          t.power = s.power) ∧
        (s.stateOf i = .queued → s.power.permitQueue.Nodup → i ∈ s.power.permitQueue →
          s.power.permitQueue.Pairwise (fun j k => s.queuesBefore j k = true) →
          t.power.permitQueue.Perm s.power.permitQueue ∧
            t.power.permitQueue.Pairwise (fun j k => t.queuesBefore j k = true)) ∧
        Holds 0x10 f (if ∃ fv ∈ l, fv.2 < fv.1.range.1 ∨ fv.1.range.2 < fv.2 then .okClamped else .ok)
          (l.flatMap fun fv => byte fv.1.code :: two ((t.recordOf i).policy.read fv.1)) s t ∧
        OtherSlots i s t ∧ FrameKeeps f s t ∧ t.settings = s.settings ∧ t.links = s.links ∧ t.batch = s.batch ∧
        t.attention = s.attention) ∧
    (policyFields f.params = some [(.admitMode, 0)] → s.stateOf i = .identified →
      (s.recordOf i).policy.admitMode = .held → (s.recordOf i).handleClosed = false →
      ∃ t, exec (.setPolicy f) s = .next t ∧ (t.recordOf i).approved = true ∧ t.stateOf i = .identified ∧
        (t.recordOf i).policy = { (s.recordOf i).policy with admitMode := .auto } ∧
        Holds 0x10 f .ok [2, 0, 0] s t ∧ OtherSlots i s t ∧ FrameKeeps f s t)

/-- SET_POLICY with a new role (R4, R5): the record is cleared, the engine holds no queue, the slot goes to EMPTY for
UNUSED or with no blade and else to SETTLING with its debounce started, and the Link Table follows the new roles. -/
def Obligations.RoleChangesClearTheSlot : Prop :=
  ∀ (s : State) (f : Frame) (i : SlotId) (r : Role), MayChange f s → f.slot.toNat = slotNumber i →
    policyFields f.params = some [(.role, r.code)] → r ≠ s.roleOf i →
    s.stateOf i ∈ [SlotState.empty, .identified, .rejected, .vacantReady, .faulted] →
    (r = .hub → (allSlots.filter fun j => decide (j ≠ i) && s.roleOf j == .hub).length < 2) →
    (s.recordOf i).power = none → OutputsFollow s → PresenceLaw s → NoneWaiting s →
    ∃ t, exec (.setPolicy f) s = .next t ∧ (t.recordOf i).policy = { (s.recordOf i).policy with role := r } ∧
      t.stateOf i = (if r = .unused ∨ (s.slot i).cond.present = false then .empty else .settling) ∧
      (t.stateOf i = .settling → (t.slot i).cond.debounce = some (s.recordOf i).policy.presenceDebounce) ∧
      (t.slot i).cond.present = (s.slot i).cond.present ∧
      (t.recordOf i).identity = none ∧ (t.recordOf i).lastNotice = none ∧ (t.recordOf i).reason = none ∧
      (t.recordOf i).retriesUsed = 0 ∧ (t.recordOf i).approved = false ∧ (t.recordOf i).faultOutstanding = false ∧
      (t.recordOf i).adopted = false ∧ (t.recordOf i).idUnverified = false ∧ (t.recordOf i).floorApplied = false ∧
      (t.recordOf i).channelLost = false ∧ (t.recordOf i).batchMember = false ∧
      (t.recordOf i).priorState = none ∧ (t.recordOf i).handleClosed = (s.recordOf i).handleClosed ∧
      Shows i false false 0 .off t ∧ (t.slot i).lines = (s.slot i).lines ∧
      (t.slot i).chan.cueQueue = [] ∧ (t.slot i).chan.identityDue = false ∧
      (t.slot i).chan.noticePending = false ∧ (t.slot i).chan.pause = none ∧
      TableLaw t ∧ LanesFollow t ∧ Holds 0x10 f .ok [1, 0, byte r.code] s t ∧ FrameKeeps f s t ∧
      t.settings = s.settings ∧ t.power.sumOfGrants = s.power.sumOfGrants

/-- SET_SHELF (R60, R66, R75): the settings named hold their clamped values; a budget below S sets the deficit flag and
one at or above it clears it; a raised budget tests the head of the wait list; a raised permit limit has the arbiter act,
a lowered one takes no permit away. -/
def Obligations.SetShelfWritesSettings : Prop :=
  ∀ (s : State) (f : Frame), MayChange f s → f.slot = 0 →
    (shelfFields f.params = none → exec (.setShelf f) s = .next (Refused 0x11 f .badField s)) ∧
    (∀ l : List (ShelfField × Nat), shelfFields f.params = some l →
      ∃ t, exec (.setShelf f) s = .next t ∧
        (∀ fv ∈ l, t.settings.read fv.1 = max fv.1.range.1 (min fv.1.range.2 fv.2)) ∧
        (∀ fld : ShelfField, (∀ fv ∈ l, fv.1 ≠ fld) → t.settings.read fld = s.settings.read fld) ∧
        Holds 0x11 f (if ∃ fv ∈ l, fv.2 < fv.1.range.1 ∨ fv.1.range.2 < fv.2 then .okClamped else .ok)
          (l.flatMap fun fv => byte fv.1.code :: two (t.settings.read fv.1)) s t ∧ FrameKeeps f s t ∧
        (s.power.waitList = [] → (s.power.permitQueue = [] ∨ t.settings.permitLimit ≤ s.settings.permitLimit) →
          t.slots = s.slots ∧ t.links = s.links ∧ t.batch = s.batch ∧
            t.power = { s.power with deficit := t.power.deficit } ∧
            (t.settings.budget < s.power.sumOfGrants → (∃ fv ∈ l, fv.1 = .budget) →
              t.power.deficit = true ∧
                (if s.power.deficit = true then t.attention = s.attention
                 else OnlyPosted (.shelf .budget) (.budget false) s t)) ∧
            (s.power.sumOfGrants ≤ t.settings.budget → (∃ fv ∈ l, fv.1 = .budget) →
              t.power.deficit = false ∧
                (if s.power.deficit = true then OnlyPosted (.shelf .budget) (.budget true) s t
                 else t.attention = s.attention)) ∧
            ((∀ fv ∈ l, fv.1 ≠ .budget) → t.power = s.power ∧ t.attention = s.attention))) ∧
    (∀ (n : Nat) (i : SlotId) (p : PowerPart), shelfFields f.params = some [(.budget, n)] →
      s.settings.budget < min 8000 n → s.power.freeze = true → s.power.waitList = [i] → s.stateOf i = .budgetWait →
      (s.recordOf i).power = some p → s.power.sumOfGrants + p.grant ≤ min 8000 n →
      ∃ t, exec (.setShelf f) s = .next t ∧ t.stateOf i = .queued ∧
        (t.recordOf i).power = some { p with reserved := true, permitHeld := false } ∧
        t.power.sumOfGrants = s.power.sumOfGrants + p.grant ∧ t.power.waitList = [] ∧ i ∈ t.power.permitQueue ∧
        t.power.deficit = false ∧ OtherSlots i s t ∧ t.links = s.links) ∧
    (∀ (n : Nat) (i : SlotId) (p : PowerPart), shelfFields f.params = some [(.permitLimit, n)] →
      s.settings.permitLimit < max 1 (min 4 n) → s.power.freeze = false → s.shelf.supplyAsserted = false →
      s.power.holders.length < max 1 (min 4 n) → s.power.permitQueue = [i] → s.stateOf i = .queued →
      (s.recordOf i).power = some p → (s.recordOf i).policy.priority ≠ 0 → (s.slot i).lines.fltL = .high →
      ∃ t, exec (.setShelf f) s = .next t ∧ t.stateOf i = .charging ∧
        (t.recordOf i).power = some { p with permitHeld := true } ∧
        (t.recordOf i).phaseTimer = some (s.recordOf i).policy.chargeTimeout ∧ (t.slot i).out.preEn = true ∧
        t.power.permitQueue = [] ∧ i ∈ t.power.holders ∧ OtherSlots i s t ∧ t.links = s.links ∧
        t.attention = s.attention)

/-- SET_LEVEL (R146): the levels named hold their values clamped to 7 and are answered in frame order, every other level
and every entry stays, and the attention lines are set for the new levels. -/
def Obligations.SetLevelWritesLevels : Prop :=
  ∀ (s : State) (f : Frame), MayChange f s → f.slot = 0 →
    (levelPairs f.params = none → exec (.setLevel f) s = .next (Refused 0x12 f .badField s)) ∧
    (∀ l : List (EventClass × Nat), levelPairs f.params = some l →
      ∃ t, exec (.setLevel f) s = .next t ∧
        (∀ cn ∈ l, cn.1 ≠ .slot .powerFault ∧ cn.1 ≠ .slot .surpriseExtraction ∧ cn.1 ≠ .shelf .faultStorm ∧
          t.attention.levels.level cn.1 = min 7 cn.2) ∧
        (∀ c : EventClass, (∀ cn ∈ l, cn.1 ≠ c) → t.attention.levels.level c = s.attention.levels.level c) ∧
        (∀ k : EventKey, t.attention.entry k = s.attention.entry k) ∧
        t.attention.attnA = attnLevel t .a ∧ t.attention.attnB = attnLevel t .b ∧
        Holds 0x12 f (if ∃ cn ∈ l, 7 < cn.2 then .okClamped else .ok)
          (l.flatMap fun cn => [byte cn.1.code, byte (min 7 cn.2)]) s t ∧
        FrameKeeps f s t ∧ t.slots = s.slots ∧ t.links = s.links ∧ t.power = s.power ∧ t.batch = s.batch ∧
        t.settings = s.settings)

/-! ## Admission and retirement by command -/

/-- ADMIT and DENY_ADMIT (R43, R42, R67): an approved slot with its handle closed asks for a grant, which is reserved at
once where it fits and no other slot waits, and else waits; a denied slot is REJECTED. The arbiter is held by a freeze. -/
def Obligations.AdmissionIsDecidedByCommand : Prop :=
  ∀ (s : State) (f : Frame) (i : SlotId), MayChange f s → f.slot.toNat = slotNumber i →
    (s.stateOf i ≠ .identified →
      exec (.admitSlot f) s = .next (Refused 0x13 f .wrongState s) ∧
      exec (.denyAdmit f) s = .next (Refused 0x14 f .wrongState s)) ∧
    (s.stateOf i = .identified →
      ((s.recordOf i).policy.admitMode = .auto →
        exec (.admitSlot f) s = .next (answered 0x13 f .ok [3] (supervised f.link s))) ∧
      ((s.recordOf i).policy.admitMode = .held → (s.recordOf i).handleClosed = false →
        exec (.admitSlot f) s =
          .next (answered 0x13 f .ok [3]
            ((supervised f.link s).modRecord i fun r => { r with approved := true }))) ∧
      (∀ g : Nat, (s.recordOf i).policy.admitMode = .held → (s.recordOf i).handleClosed = true →
        s.power.freeze = true → s.power.stampCounter ≤ 4294967295 → g = min 1000 (s.grantNow i).1 →
        ∃ t, exec (.admitSlot f) s = .next t ∧ (t.recordOf i).approved = true ∧ KeepsRecord i s t ∧
          GrantAsked i g s t ∧ Holds 0x13 f .ok [if t.stateOf i = .queued then 6 else 5] s t ∧
          OtherSlots i s t ∧ FrameKeeps f s t ∧ t.links = s.links ∧ t.attention = s.attention ∧
          t.settings = s.settings ∧ t.batch = s.batch) ∧
      (∃ t, exec (.denyAdmit f) s = .next t ∧ t.stateOf i = .rejected ∧ (t.recordOf i).reason = some .denied ∧
        (t.recordOf i).approved = false ∧ (t.recordOf i).identity = (s.recordOf i).identity ∧
        Shows i false false 0 .on t ∧ OnlyPosted (.slot i .rejected) (.reason .denied) s t ∧
        Holds 0x14 f .ok [4] s t ∧ OtherSlots i s t ∧ FrameKeeps f s t ∧ t.links = s.links ∧
        t.settings = s.settings ∧ t.batch = s.batch ∧ t.power = offLists i s.power))

/-- RETIRE_ADD (R118, R103): a member is appended and the gather window starts again, a finished list is discarded, and the
slot's JOINING entries open; the refusals in their order. DENY_RETIRE (R115, R116): the slot goes back to its prior
state with RETIRE_DENIED on its way. -/
def Obligations.RetirementIsDecidedByCommand : Prop :=
  ∀ (s : State) (f : Frame) (i : SlotId), MayChange f s → f.slot.toNat = slotNumber i →
    (forceOf f.params = none → exec (.retireAdd f) s = .next (Refused 0x15 f .badField s)) ∧
    (∀ force : Bool, forceOf f.params = some force →
      (s.batch.state ∈ [BatchState.running, .holding, .abandoning] →
        exec (.retireAdd f) s = .next (Refused 0x15 f .batchBusy s)) ∧
      (s.batch.state = .doneFault → exec (.retireAdd f) s = .next (Refused 0x15 f .batchFaulted s)) ∧
      (s.batch.state = .gathering → (∃ m ∈ s.batch.members, m.slot = i) →
        exec (.retireAdd f) s = .next (Refused 0x15 f .duplicate s)) ∧
      ((s.batch.state ∈ [BatchState.idle, .done] ∨
          (s.batch.state = .gathering ∧ ∀ m ∈ s.batch.members, m.slot ≠ i)) →
        (s.stateOf i ∉ [SlotState.inService, .powered, .retirePending] →
          exec (.retireAdd f) s = .next (Refused 0x15 f .wrongState s)) ∧
        (s.stateOf i ∈ [SlotState.inService, .powered, .retirePending] →
          ∃ t, exec (.retireAdd f) s = .next t ∧
            t.batch =
              { state := .gathering, window := some s.settings.gatherWindow
                members :=
                  (if s.batch.state = .gathering then s.batch.members else []) ++
                    [{ slot := i, force := force, started := false, returnState := none, outcome := none }] } ∧
            t.recordOf i = { s.recordOf i with batchMember := true } ∧
            t.links = s.links.map (fun e =>
              if (e.payload == i || e.hubSlot == i) && e.linkState == .joining then
                { e with linkState := .open, linkUp := .none, settle := none, held := false }
              else e) ∧
            Holds 0x15 f .ok [1, byte t.batch.members.length] s t ∧ (t.slot i).chan = (s.slot i).chan ∧
            OthersKeep i s t ∧ FrameKeeps f s t ∧ t.power = s.power ∧ t.attention = s.attention ∧
            t.settings = s.settings))) ∧
    ((s.stateOf i ≠ .retirePending ∨ (s.recordOf i).batchMember = true) →
      exec (.denyRetire f) s = .next (Refused 0x16 f .wrongState s)) ∧
    (∀ prior : ReturnState, s.stateOf i = .retirePending → (s.recordOf i).batchMember = false →
      (s.recordOf i).priorState = some prior → (s.slot i).lines.fltL = .high →
      ∃ t, exec (.denyRetire f) s = .next t ∧ t.stateOf i = prior.toState ∧ (t.recordOf i).priorState = none ∧
        (t.recordOf i).phaseTimer =
          (if prior = .powered then
            some (min 600 (if ((s.recordOf i).identity.map (·.bootAllowance)).getD 0 = 0
              then (s.recordOf i).policy.bootDefault
              else ((s.recordOf i).identity.map (·.bootAllowance)).getD 0) * 1000)
           else none) ∧
        KeepsGrant i s t ∧ KeepsRecord i s t ∧ Shows i false true 15 .off t ∧ CueOnWay i .retireDenied t ∧
        Holds 0x16 f .ok [byte prior.toState.code] s t ∧ OthersKeep i s t ∧ FrameKeeps f s t ∧
        t.attention = s.attention ∧ t.settings = s.settings ∧ t.batch = s.batch)

/-- BATCH_HOLD, BATCH_RESUME, BATCH_ABANDON and CLEAR_BATCH_FAULT (R128 to R131, R127, R123): a held batch keeps its
drain deadlines paused, a resumed one runs them on and starts what waits, asking its lanes to drain (R102), an abandoned
one sends its draining members back, and a failed one becomes IDLE with its list kept. A resumed or abandoned batch whose
every member has its outcome ends, with BATCH_END posted (R127). -/
def Obligations.BatchCommandsSteerTheBatch : Prop :=
  ∀ (s : State) (f : Frame), MayChange f s → f.slot = 0 →
    (s.batch.state = .gathering →
      exec (.batchHold f) s =
        .next (answered 0x17 f .ok [3]
          { supervised f.link s with batch := { s.batch with state := .holding, window := none } })) ∧
    (s.batch.state = .running →
      ∃ t, exec (.batchHold f) s = .next t ∧ t.batch = { s.batch with state := .holding } ∧
        (∀ i : SlotId,
          t.slot i =
            if s.stateOf i = .draining then
              { s.slot i with record := { s.recordOf i with phasePaused := true } }
            else s.slot i) ∧
        Holds 0x17 f .ok [3] s t ∧ FrameKeeps f s t ∧ t.links = s.links ∧ t.power = s.power ∧
        t.attention = s.attention ∧ t.settings = s.settings) ∧
    (s.batch.state ∉ [BatchState.gathering, .running] →
      exec (.batchHold f) s = .next (Refused 0x17 f .wrongState s)) ∧
    (s.batch.state = .holding → (s.batch.members.map (·.slot)).Nodup →
      (∀ i : SlotId, (s.slot i).lines.fltL = .high) → (∃ m ∈ s.batch.members, m.outcome = none) →
      (∀ m ∈ s.batch.members, m.started = false → m.outcome = none → Startable s m) →
      ∃ t, exec (.batchResume f) s = .next t ∧ t.batch.state = .running ∧ Holds 0x18 f .ok [2] s t ∧
        FrameKeeps f s t ∧ t.settings = s.settings ∧
        (∀ m ∈ s.batch.members, m.started = false → m.outcome = none →
          MemberStarted s t m ∧ (PairsOnce s → LanesAsked s t m)) ∧
        (∀ m ∈ s.batch.members, m.started = true → m.outcome = none → s.stateOf m.slot = .draining →
          (t.stateOf m.slot = .draining ∧
              t.recordOf m.slot = { s.recordOf m.slot with phasePaused := false }) ∨
            t.stateOf m.slot = .isolating) ∧
        (∀ m ∈ s.batch.members, m.started = true → m.outcome = none → s.stateOf m.slot = .draining →
          (∀ e ∈ s.links, e.touches m.slot = true → e.linkState ≠ .drainAsked) →
          (∀ m' ∈ s.batch.members, m'.started = true) → t.stateOf m.slot = .isolating)) ∧
    (s.batch.state = .holding → (∀ m ∈ s.batch.members, m.outcome.isSome = true) →
      (∀ i : SlotId, s.stateOf i ≠ .draining) →
      ∃ t, exec (.batchResume f) s = .next t ∧ BatchEnded (anyFailed s) s t ∧ t.batch.members = s.batch.members ∧
        Holds 0x18 f .ok [if anyFailed s = true then 6 else 5] s t ∧ FrameKeeps f s t ∧ t.slots = s.slots ∧
        t.links = s.links ∧ t.power = s.power ∧ t.settings = s.settings) ∧
    (s.batch.state ≠ .holding → exec (.batchResume f) s = .next (Refused 0x18 f .wrongState s)) ∧
    (s.batch.state = .gathering →
      ∃ t, exec (.batchAbandon f) s = .next t ∧ t.batch = { state := .idle, window := none, members := [] } ∧
        (∀ m ∈ s.batch.members,
          t.recordOf m.slot = { s.recordOf m.slot with batchMember := false }) ∧
        (∀ i : SlotId, (∀ m ∈ s.batch.members, m.slot ≠ i) → t.recordOf i = s.recordOf i) ∧
        (∀ i : SlotId, (t.slot i).chan = (s.slot i).chan) ∧
        Holds 0x19 f .ok [0] s t ∧ FrameKeeps f s t ∧ t.power = s.power ∧ t.attention = s.attention ∧
        t.settings = s.settings) ∧
    ((s.batch.state = .running ∨ s.batch.state = .holding) → (s.batch.members.map (·.slot)).Nodup →
      (∀ i : SlotId, (s.slot i).lines.fltL = .high) → PairsOnce s →
      (∀ m ∈ s.batch.members, s.stateOf m.slot = .draining →
        m.started = true ∧ m.outcome = none ∧ m.returnState.isSome = true) →
      ∃ t, exec (.batchAbandon f) s = .next t ∧
        (∀ m ∈ s.batch.members,
          (s.stateOf m.slot = .draining →
            (m.returnState.map ReturnState.toState) = some (t.stateOf m.slot) ∧
              t.memberOf m.slot = some { m with outcome := some .abandoned } ∧
              (t.recordOf m.slot).batchMember = false) ∧
          (m.started = false → m.outcome = none →
            t.stateOf m.slot = s.stateOf m.slot ∧
              t.memberOf m.slot = some { m with outcome := some .abandoned } ∧
              (t.recordOf m.slot).batchMember = false) ∧
          (s.stateOf m.slot ≠ .draining → m.started = true →
            t.recordOf m.slot = s.recordOf m.slot ∧ t.memberOf m.slot = some m)) ∧
        t.batch.state =
          (if ∃ m ∈ s.batch.members, m.outcome = none ∧ m.started = true ∧ s.stateOf m.slot ≠ .draining then
            .abandoning
          else if ∃ m ∈ s.batch.members,
            m.outcome = some .stuck ∨ m.outcome = some .faulted ∨ m.outcome = some .drainTimeout then .doneFault
          else .done) ∧
        (t.batch.state = .done → Posted (.shelf .batchEnd) (.batchEnd false) s t) ∧
        (t.batch.state = .doneFault → Posted (.shelf .batchEnd) (.batchEnd true) s t) ∧
        (t.batch.state = .abandoning →
          t.attention.entry (.shelf .batchEnd) = s.attention.entry (.shelf .batchEnd)) ∧
        Holds 0x19 f .ok [byte t.batch.state.code] s t ∧ FrameKeeps f s t ∧ t.settings = s.settings) ∧
    (s.batch.state ∉ [BatchState.gathering, .running, .holding] →
      exec (.batchAbandon f) s = .next (Refused 0x19 f .wrongState s)) ∧
    (s.batch.state = .doneFault →
      exec (.clearBatchFault f) s =
        .next (answered 0x1A f .ok [0] { supervised f.link s with batch := { s.batch with state := .idle } })) ∧
    (s.batch.state ≠ .doneFault → exec (.clearBatchFault f) s = .next (Refused 0x1A f .wrongState s))

/-- CLEAR_SLOT (R142) and THAW (R78): a FAULTED or REJECTED slot goes to SETTLING as though just pushed in, a STUCK one
with PGOOD low to VACANT_READY with its grant released; a thaw lets the arbiter act. -/
def Obligations.ClearsReturnSlotsAndPermits : Prop :=
  ∀ (s : State) (f : Frame), MayChange f s →
    (∀ i : SlotId, f.slot.toNat = slotNumber i →
      ((s.stateOf i = .faulted ∨ s.stateOf i = .rejected) → (s.slot i).cond.present = true →
        ∃ t, exec (.clearSlot f) s = .next t ∧ t.stateOf i = .settling ∧
          (t.slot i).cond =
            { (s.slot i).cond with debounce := some (s.recordOf i).policy.presenceDebounce, loss := none } ∧
          (t.recordOf i).identity = none ∧ (t.recordOf i).reason = none ∧ (t.recordOf i).retriesUsed = 0 ∧
          (t.recordOf i).faultOutstanding = false ∧ (t.recordOf i).approved = false ∧
          (t.recordOf i).idUnverified = false ∧ (t.recordOf i).floorApplied = false ∧
          (t.recordOf i).adopted = false ∧ (t.recordOf i).phaseTimer = none ∧ KeepsRecord i s t ∧
          (t.recordOf i).lastNotice = (s.recordOf i).lastNotice ∧ Shows i false false 0 .off t ∧
          Holds 0x1B f .ok [1] s t ∧ OtherSlots i s t ∧ FrameKeeps f s t ∧ t.links = s.links ∧
          t.batch = s.batch ∧ t.attention = s.attention ∧ t.settings = s.settings ∧ t.power = offLists i s.power) ∧
      (s.stateOf i = .stuck → (s.slot i).lines.pgood = .low → NoneWaiting s → AccountsLaw s →
        ∃ t, exec (.clearSlot f) s = .next t ∧ t.stateOf i = .vacantReady ∧
          (t.recordOf i).faultOutstanding = false ∧ (t.recordOf i).reason = none ∧ (t.recordOf i).power = none ∧
          (t.recordOf i).approved = false ∧ (t.recordOf i).adopted = false ∧
          (t.recordOf i).identity = (s.recordOf i).identity ∧ KeepsRecord i s t ∧ Shows i false false 0 .on t ∧
          t.power.sumOfGrants = s.power.sumOfGrants - (s.recordOf i).reservedGrant ∧
          t.power.deficit = (s.power.deficit && decide (s.settings.budget < t.power.sumOfGrants)) ∧
          (∀ k : EventKey, k ≠ .shelf .budget → t.attention.entry k = s.attention.entry k) ∧
          Holds 0x1B f .ok [16] s t ∧ OtherSlots i s t ∧ FrameKeeps f s t ∧ t.links = s.links ∧
          t.batch = s.batch ∧ t.settings = s.settings) ∧
      (s.stateOf i = .stuck → (s.slot i).lines.pgood = .high →
        exec (.clearSlot f) s = .next (Refused 0x1B f .stillPowered s)) ∧
      (s.stateOf i ∉ [SlotState.faulted, .rejected, .stuck] →
        exec (.clearSlot f) s = .next (Refused 0x1B f .wrongState s))) ∧
    (f.slot = 0 →
      (s.power.freeze = false → exec (.thaw f) s = .next (Refused 0x1C f .wrongState s)) ∧
      (s.power.freeze = true → (s.power.permitQueue = [] ∨ s.shelf.supplyAsserted = true) →
        exec (.thaw f) s =
          .next (answered 0x1C f .ok [] { supervised f.link s with power := { s.power with freeze := false } })) ∧
      (∀ (i : SlotId) (p : PowerPart), s.power.freeze = true → s.shelf.supplyAsserted = false →
        s.power.holders.length < s.settings.permitLimit → s.power.permitQueue = [i] → s.stateOf i = .queued →
        (s.recordOf i).power = some p → (s.recordOf i).policy.priority ≠ 0 → (s.slot i).lines.fltL = .high →
        ∃ t, exec (.thaw f) s = .next t ∧ t.power.freeze = false ∧ t.stateOf i = .charging ∧
          (t.recordOf i).power = some { p with permitHeld := true } ∧
          (t.recordOf i).phaseTimer = some (s.recordOf i).policy.chargeTimeout ∧ (t.slot i).out.preEn = true ∧
          t.power.permitQueue = [] ∧ i ∈ t.power.holders ∧ Holds 0x1C f .ok [] s t ∧ OtherSlots i s t ∧
          FrameKeeps f s t ∧ t.links = s.links ∧ t.attention = s.attention))

/-! ## Events -/

/-- NEXT_ATTENTION (R151, R150): the deliverable event of the highest level, lowest slot number and first class is
delivered, its entry cleared, the current level pushed and the event's level made current; STACK_FULL with 8 levels
pushed, NOTHING_PENDING with nothing deliverable. -/
def Obligations.NextAttentionDeliversTheFirst : Prop :=
  ∀ (s : State) (f : Frame) (p : Port), MayChange f s → f.slot = 0 → p = s.port f.link →
    (8 ≤ p.stack.length → exec (.nextAttention f) s = .next (Refused 0x1D f .stackFull s)) ∧
    (p.stack.length < 8 → (∀ k : EventKey, deliverable s.attention p k = false) →
      exec (.nextAttention f) s = .next (Refused 0x1D f .nothingPending s)) ∧
    (∀ (k : EventKey) (n : Nat), p.stack.length < 8 → deliverable s.attention p k = true →
      n = s.attention.levels.level k.eventClass →
      (∀ k' : EventKey, deliverable s.attention p k' = true →
        s.attention.levels.level k'.eventClass < n ∨
          (s.attention.levels.level k'.eventClass = n ∧
            (k.slotNumber < k'.slotNumber ∨
              (k.slotNumber = k'.slotNumber ∧ k.eventClass.code ≤ k'.eventClass.code)))) →
      ∃ t, exec (.nextAttention f) s = .next t ∧
        t.attention.entry k = { s.attention.entry k with pending := false, repeated := false } ∧
        (∀ k' : EventKey, k' ≠ k → t.attention.entry k' = s.attention.entry k') ∧
        t.attention.levels = s.attention.levels ∧
        t.port f.link =
          { p with
            level := n, stack := p.stack ++ [p.level], supervision := some s.settings.supervisionTime
            held := (t.port f.link).held } ∧
        t.attention.attnA = attnLevel t .a ∧ t.attention.attnB = attnLevel t .b ∧
        Holds 0x1D f .ok
          ([byte k.slotNumber, byte k.eventClass.code, byte n] ++ detailBytes (s.attention.entry k).detail ++
            [flag (s.attention.entry k).repeated, byte (p.stack.length + 1)]) s t ∧
        t.port f.link.other = s.port f.link.other ∧ t.slots = s.slots ∧ t.links = s.links ∧ t.power = s.power ∧
        t.batch = s.batch ∧ t.settings = s.settings ∧ t.episode = s.episode ∧ t.elapsed = s.elapsed ∧
        t.shelf = s.shelf)

/-- SERVICE_DONE (R152) and HOLDOFF (R153): the top level is popped and made current; the holdoff runs from n, at most
16383, and 0 cancels it; deliverability is judged again. -/
def Obligations.ServiceAndHoldoffAreSet : Prop :=
  ∀ (s : State) (f : Frame), MayChange f s → f.slot = 0 →
    ((s.port f.link).stack = [] → exec (.serviceDone f) s = .next (Refused 0x1E f .wrongState s)) ∧
    (∀ (below : List Nat) (n : Nat), (s.port f.link).stack = below ++ [n] →
      ∃ t, exec (.serviceDone f) s = .next t ∧
        t.port f.link =
          { s.port f.link with
            level := n, stack := below, supervision := some s.settings.supervisionTime
            held := (t.port f.link).held } ∧
        (∀ k : EventKey, t.attention.entry k = s.attention.entry k) ∧ t.attention.levels = s.attention.levels ∧
        t.attention.attnA = attnLevel t .a ∧ t.attention.attnB = attnLevel t .b ∧
        Holds 0x1E f .ok [byte n, byte below.length] s t ∧ t.port f.link.other = s.port f.link.other ∧
        t.slots = s.slots ∧ t.links = s.links ∧ t.power = s.power ∧ t.batch = s.batch ∧ t.settings = s.settings ∧
        t.episode = s.episode ∧ t.elapsed = s.elapsed ∧ t.shelf = s.shelf) ∧
    (f.params.length < 2 → exec (.holdoff f) s = .next (Refused 0x1F f .badField s)) ∧
    (∀ (hi lo : Byte) (rest : List Byte) (n : Nat), f.params = hi :: lo :: rest → n = hi.toNat * 256 + lo.toNat →
      ∃ t, exec (.holdoff f) s = .next t ∧
        t.port f.link =
          { s.port f.link with
            holdoff := if n = 0 then none else some (min n 16383)
            supervision := some s.settings.supervisionTime, held := (t.port f.link).held } ∧
        (∀ k : EventKey, t.attention.entry k = s.attention.entry k) ∧ t.attention.levels = s.attention.levels ∧
        t.attention.attnA = attnLevel t .a ∧ t.attention.attnB = attnLevel t .b ∧
        Holds 0x1F f (if 16383 < n then .okClamped else .ok) (two (min n 16383)) s t ∧
        t.port f.link.other = s.port f.link.other ∧ t.slots = s.slots ∧ t.links = s.links ∧ t.power = s.power ∧
        t.batch = s.batch ∧ t.settings = s.settings ∧ t.episode = s.episode ∧ t.elapsed = s.elapsed ∧
        t.shelf = s.shelf)

/-! ## Link roles -/

/-- TAKEOVER (R162) and RELEASE (R163) by the roles of both links: who becomes ACTIVE, what is posted, the end of silence,
and the refusals. A release leaves no link ACTIVE, and the slots that wait to retire on their own are added to the batch
(R132) and entered in an episode that is open (R164). -/
def Obligations.RolesChangeByCommand : Prop :=
  ∀ (s : State) (f : Frame), Accepted f s → f.slot = 0 →
    ((s.port f.link).role = .active →
      exec (.takeover f) s = .next (answered 0x20 f .ok [] (supervised f.link s))) ∧
    ((s.port f.link).role = .silent →
      exec (.takeover f) s = .next (answered 0x20 f .ok [] (State.becomeActive f.link .resumed s))) ∧
    ((s.port f.link).role = .standby → (s.port f.link.other).role = .active →
      exec (.takeover f) s = .next (answered 0x20 f .wrongState [] s)) ∧
    ((s.port f.link).role = .standby → (s.port f.link.other).role ≠ .active →
      ∃ t, exec (.takeover f) s = .next t ∧
        t.port f.link =
          { s.port f.link with
            role := .active, supervision := some s.settings.supervisionTime, level := 0, stack := [], holdoff := none
            held := (t.port f.link).held } ∧
        t.port f.link.other = { s.port f.link.other with role := .standby } ∧
        t.episode =
          (if s.episode.state = .open then { s.episode with endOfSilence := some s.elapsed } else s.episode) ∧
        OnlyPosted (.shelf .link) (.link .takeover f.link) s t ∧ Holds 0x20 f .ok [] s t ∧ t.slots = s.slots ∧
        t.links = s.links ∧ t.power = s.power ∧ t.batch = s.batch ∧ t.settings = s.settings ∧
        t.elapsed = s.elapsed ∧ t.shelf = s.shelf) ∧
    ((s.port f.link).role = .standby → exec (.release f) s = .next (answered 0x21 f .wrongState [] s)) ∧
    ((s.port f.link).role = .active → (s.port f.link.other).role ≠ .active →
      (∀ i : SlotId, (s.recordOf i).policy.autoRetire = false) →
      ∃ t, exec (.release f) s = .next t ∧
        t.port f.link =
          { s.port f.link with
            role := .standby, supervision := none, level := 0, stack := [], holdoff := none
            held := (t.port f.link).held } ∧
        t.port f.link.other = s.port f.link.other ∧ t.episode = s.episode ∧
        OnlyPosted (.shelf .link) (.link .release f.link) s t ∧ Holds 0x21 f .ok [] s t ∧ t.slots = s.slots ∧
        t.links = s.links ∧ t.power = s.power ∧ t.batch = s.batch ∧ t.settings = s.settings ∧
        t.elapsed = s.elapsed ∧ t.shelf = s.shelf) ∧
    ((s.port f.link).role = .active → (s.port f.link.other).role ≠ .active →
      ∃ t, exec (.release f) s = .next t ∧
        t.port f.link =
          { s.port f.link with
            role := .standby, supervision := none, level := 0, stack := [], holdoff := none
            held := (t.port f.link).held } ∧
        t.port f.link.other = s.port f.link.other ∧ AutoAdded (autoSlots s.batch.state s) s.episode s t ∧
        OnlyPosted (.shelf .link) (.link .release f.link) s t ∧ Holds 0x21 f .ok [] s t ∧ t.power = s.power ∧
        t.settings = s.settings ∧ t.elapsed = s.elapsed ∧ t.shelf = s.shelf)

/-- ACK_EPISODE (R165, R164): from the ACTIVE link an open record is closed and answered as READ_EPISODE would, and changing
commands pass from then on; without an open record, or from a STANDBY link, it is refused. -/
def Obligations.EpisodesAreAcknowledged : Prop :=
  ∀ (s : State) (f : Frame), Accepted f s → f.slot = 0 →
    ((s.port f.link).role = .active → s.episode.state ≠ .open →
      exec (.ackEpisode f) s = .next (Refused 0x22 f .wrongState s)) ∧
    ((s.port f.link).role = .standby → exec (.ackEpisode f) s = .next (answered 0x22 f .notActive [] s)) ∧
    ((s.port f.link).role = .active → s.episode.state = .open →
      ∃ t, exec (.ackEpisode f) s = .next t ∧ t.episode = { s.episode with state := .closed } ∧ MayChange f t ∧
        Holds 0x22 f .ok
          ([2, (s.episode.silentLink.map fun l => byte (linkCode l)).getD 0] ++ four (s.episode.start.getD 0) ++
            four ((s.episode.endOfSilence.getD s.elapsed + 4294967296 - s.episode.start.getD 0) % 4294967296) ++
            listBytes (fun i => [byte (slotNumber i)]) s.episode.retired) s t ∧
        t.port f.link =
          { s.port f.link with
            supervision := some s.settings.supervisionTime, held := (t.port f.link).held } ∧
        t.port f.link.other = s.port f.link.other ∧ t.slots = s.slots ∧ t.links = s.links ∧ t.power = s.power ∧
        t.batch = s.batch ∧ t.settings = s.settings ∧ t.attention = s.attention ∧ t.elapsed = s.elapsed ∧
        t.shelf = s.shelf) ∧
    ((s.port f.link).role = .silent → s.episode.state = .open →
      ∃ t, exec (.ackEpisode f) s = .next t ∧
        t.episode = { s.episode with state := .closed, endOfSilence := some s.elapsed } ∧
        (t.port f.link).role = .active ∧ OnlyPosted (.shelf .link) (.link .resumed f.link) s t ∧
        t.slots = s.slots)
end

