-- ==== Sys2Proof/Laws/State.lean ====
section
/-! SUPPORT. What each update of the state leaves in each field, so that no later proof unfolds a record update. The
lemmas are simp lemmas, from the outer update to the field. -/

namespace Sys2Proof.Laws

open Sys2Proof Sys2Proof.Machine

section Slots

variable (s : State) (i j : SlotId)

/-! ### One slot -/

@[simp] theorem setSlot_slot (x : Slot) : (s.setSlot i x).slot j = if j = i then x else s.slot j := by
  by_cases h : j = i
  · subst h; simp [State.setSlot, State.slot]
  · have h' : i.val ≠ j.val := fun e => h (Fin.ext e.symm)
    simp [State.setSlot, State.slot, h, h']

@[simp] theorem modSlot_slot (f : Slot → Slot) :
    (s.modSlot i f).slot j = if j = i then f (s.slot i) else s.slot j := by simp [State.modSlot]

@[simp] theorem modRecord_slot (f : SlotRecord → SlotRecord) :
    (s.modRecord i f).slot j = if j = i then { s.slot i with record := f (s.slot i).record } else s.slot j := by
  simp [State.modRecord]

@[simp] theorem modLines_slot (f : InputLines → InputLines) :
    (s.modLines i f).slot j = if j = i then { s.slot i with lines := f (s.slot i).lines } else s.slot j := by
  simp [State.modLines]

@[simp] theorem modCond_slot (f : Conditioning → Conditioning) :
    (s.modCond i f).slot j = if j = i then { s.slot i with cond := f (s.slot i).cond } else s.slot j := by
  simp [State.modCond]

@[simp] theorem modOut_slot (f : OutputLines → OutputLines) :
    (s.modOut i f).slot j = if j = i then { s.slot i with out := f (s.slot i).out } else s.slot j := by
  simp [State.modOut]

@[simp] theorem modChan_slot (f : Channel → Channel) :
    (s.modChan i f).slot j = if j = i then { s.slot i with chan := f (s.slot i).chan } else s.slot j := by
  simp [State.modChan]

@[simp] theorem mapSlots_slot (f : SlotId → Slot → Slot) : (s.mapSlots f).slot j = f j (s.slot j) := by
  simp [State.mapSlots, State.slot]

@[simp] theorem modRecord_recordOf (f : SlotRecord → SlotRecord) :
    (s.modRecord i f).recordOf j = if j = i then f (s.recordOf i) else s.recordOf j := by
  by_cases h : j = i <;> simp [State.recordOf, h]


@[simp] theorem modLines_recordOf (f : InputLines → InputLines) : (s.modLines i f).recordOf j = s.recordOf j := by
  by_cases h : j = i <;> simp [State.recordOf, h]

@[simp] theorem modLines_stateOf (f : InputLines → InputLines) : (s.modLines i f).stateOf j = s.stateOf j := by
  by_cases h : j = i <;> simp [State.stateOf, h]

@[simp] theorem modCond_recordOf (f : Conditioning → Conditioning) : (s.modCond i f).recordOf j = s.recordOf j := by
  by_cases h : j = i <;> simp [State.recordOf, h]

@[simp] theorem modCond_stateOf (f : Conditioning → Conditioning) : (s.modCond i f).stateOf j = s.stateOf j := by
  by_cases h : j = i <;> simp [State.stateOf, h]

@[simp] theorem modOut_recordOf (f : OutputLines → OutputLines) : (s.modOut i f).recordOf j = s.recordOf j := by
  by_cases h : j = i <;> simp [State.recordOf, h]

@[simp] theorem modOut_stateOf (f : OutputLines → OutputLines) : (s.modOut i f).stateOf j = s.stateOf j := by
  by_cases h : j = i <;> simp [State.stateOf, h]

@[simp] theorem modChan_recordOf (f : Channel → Channel) : (s.modChan i f).recordOf j = s.recordOf j := by
  by_cases h : j = i <;> simp [State.recordOf, h]

@[simp] theorem modChan_stateOf (f : Channel → Channel) : (s.modChan i f).stateOf j = s.stateOf j := by
  by_cases h : j = i <;> simp [State.stateOf, h]

end Slots

/-! ### The other fields -/

section Fields

variable (s : State) (i : SlotId)

@[simp] theorem setSlot_links (x : Slot) : (s.setSlot i x).links = s.links := rfl
@[simp] theorem setSlot_settings (x : Slot) : (s.setSlot i x).settings = s.settings := rfl
@[simp] theorem setSlot_power (x : Slot) : (s.setSlot i x).power = s.power := rfl
@[simp] theorem setSlot_batch (x : Slot) : (s.setSlot i x).batch = s.batch := rfl
@[simp] theorem setSlot_attention (x : Slot) : (s.setSlot i x).attention = s.attention := rfl
@[simp] theorem setSlot_portA (x : Slot) : (s.setSlot i x).portA = s.portA := rfl
@[simp] theorem setSlot_portB (x : Slot) : (s.setSlot i x).portB = s.portB := rfl
@[simp] theorem setSlot_episode (x : Slot) : (s.setSlot i x).episode = s.episode := rfl
@[simp] theorem setSlot_elapsed (x : Slot) : (s.setSlot i x).elapsed = s.elapsed := rfl
@[simp] theorem setSlot_shelf (x : Slot) : (s.setSlot i x).shelf = s.shelf := rfl
@[simp] theorem setSlot_coincidences (x : Slot) : (s.setSlot i x).coincidences = s.coincidences := rfl
@[simp] theorem setSlot_pending (x : Slot) : (s.setSlot i x).pending = s.pending := rfl

@[simp] theorem modSlot_links (f : Slot → Slot) : (s.modSlot i f).links = s.links := rfl
@[simp] theorem modSlot_settings (f : Slot → Slot) : (s.modSlot i f).settings = s.settings := rfl
@[simp] theorem modSlot_power (f : Slot → Slot) : (s.modSlot i f).power = s.power := rfl
@[simp] theorem modSlot_batch (f : Slot → Slot) : (s.modSlot i f).batch = s.batch := rfl
@[simp] theorem modSlot_attention (f : Slot → Slot) : (s.modSlot i f).attention = s.attention := rfl
@[simp] theorem modSlot_portA (f : Slot → Slot) : (s.modSlot i f).portA = s.portA := rfl
@[simp] theorem modSlot_portB (f : Slot → Slot) : (s.modSlot i f).portB = s.portB := rfl
@[simp] theorem modSlot_episode (f : Slot → Slot) : (s.modSlot i f).episode = s.episode := rfl
@[simp] theorem modSlot_elapsed (f : Slot → Slot) : (s.modSlot i f).elapsed = s.elapsed := rfl
@[simp] theorem modSlot_shelf (f : Slot → Slot) : (s.modSlot i f).shelf = s.shelf := rfl
@[simp] theorem modSlot_coincidences (f : Slot → Slot) : (s.modSlot i f).coincidences = s.coincidences := rfl
@[simp] theorem modSlot_pending (f : Slot → Slot) : (s.modSlot i f).pending = s.pending := rfl

@[simp] theorem modRecord_links (f : SlotRecord → SlotRecord) : (s.modRecord i f).links = s.links := rfl
@[simp] theorem modRecord_settings (f : SlotRecord → SlotRecord) : (s.modRecord i f).settings = s.settings := rfl
@[simp] theorem modRecord_power (f : SlotRecord → SlotRecord) : (s.modRecord i f).power = s.power := rfl
@[simp] theorem modRecord_batch (f : SlotRecord → SlotRecord) : (s.modRecord i f).batch = s.batch := rfl
@[simp] theorem modRecord_attention (f : SlotRecord → SlotRecord) : (s.modRecord i f).attention = s.attention := rfl
@[simp] theorem modRecord_portA (f : SlotRecord → SlotRecord) : (s.modRecord i f).portA = s.portA := rfl
@[simp] theorem modRecord_portB (f : SlotRecord → SlotRecord) : (s.modRecord i f).portB = s.portB := rfl
@[simp] theorem modRecord_episode (f : SlotRecord → SlotRecord) : (s.modRecord i f).episode = s.episode := rfl
@[simp] theorem modRecord_elapsed (f : SlotRecord → SlotRecord) : (s.modRecord i f).elapsed = s.elapsed := rfl
@[simp] theorem modRecord_shelf (f : SlotRecord → SlotRecord) : (s.modRecord i f).shelf = s.shelf := rfl
@[simp] theorem modRecord_coincidences (f : SlotRecord → SlotRecord) :
    (s.modRecord i f).coincidences = s.coincidences := rfl
@[simp] theorem modRecord_pending (f : SlotRecord → SlotRecord) : (s.modRecord i f).pending = s.pending := rfl

@[simp] theorem modLines_links (f : InputLines → InputLines) : (s.modLines i f).links = s.links := rfl
@[simp] theorem modLines_settings (f : InputLines → InputLines) : (s.modLines i f).settings = s.settings := rfl
@[simp] theorem modLines_power (f : InputLines → InputLines) : (s.modLines i f).power = s.power := rfl
@[simp] theorem modLines_batch (f : InputLines → InputLines) : (s.modLines i f).batch = s.batch := rfl
@[simp] theorem modLines_attention (f : InputLines → InputLines) : (s.modLines i f).attention = s.attention := rfl
@[simp] theorem modLines_portA (f : InputLines → InputLines) : (s.modLines i f).portA = s.portA := rfl
@[simp] theorem modLines_portB (f : InputLines → InputLines) : (s.modLines i f).portB = s.portB := rfl
@[simp] theorem modLines_episode (f : InputLines → InputLines) : (s.modLines i f).episode = s.episode := rfl
@[simp] theorem modLines_elapsed (f : InputLines → InputLines) : (s.modLines i f).elapsed = s.elapsed := rfl
@[simp] theorem modLines_shelf (f : InputLines → InputLines) : (s.modLines i f).shelf = s.shelf := rfl
@[simp] theorem modLines_coincidences (f : InputLines → InputLines) :
    (s.modLines i f).coincidences = s.coincidences := rfl
@[simp] theorem modLines_pending (f : InputLines → InputLines) : (s.modLines i f).pending = s.pending := rfl

@[simp] theorem modCond_links (f : Conditioning → Conditioning) : (s.modCond i f).links = s.links := rfl
@[simp] theorem modCond_settings (f : Conditioning → Conditioning) : (s.modCond i f).settings = s.settings := rfl
@[simp] theorem modCond_power (f : Conditioning → Conditioning) : (s.modCond i f).power = s.power := rfl
@[simp] theorem modCond_batch (f : Conditioning → Conditioning) : (s.modCond i f).batch = s.batch := rfl
@[simp] theorem modCond_attention (f : Conditioning → Conditioning) : (s.modCond i f).attention = s.attention := rfl
@[simp] theorem modCond_portA (f : Conditioning → Conditioning) : (s.modCond i f).portA = s.portA := rfl
@[simp] theorem modCond_portB (f : Conditioning → Conditioning) : (s.modCond i f).portB = s.portB := rfl
@[simp] theorem modCond_episode (f : Conditioning → Conditioning) : (s.modCond i f).episode = s.episode := rfl
@[simp] theorem modCond_elapsed (f : Conditioning → Conditioning) : (s.modCond i f).elapsed = s.elapsed := rfl
@[simp] theorem modCond_shelf (f : Conditioning → Conditioning) : (s.modCond i f).shelf = s.shelf := rfl
@[simp] theorem modCond_coincidences (f : Conditioning → Conditioning) :
    (s.modCond i f).coincidences = s.coincidences := rfl
@[simp] theorem modCond_pending (f : Conditioning → Conditioning) : (s.modCond i f).pending = s.pending := rfl

@[simp] theorem modOut_links (f : OutputLines → OutputLines) : (s.modOut i f).links = s.links := rfl
@[simp] theorem modOut_settings (f : OutputLines → OutputLines) : (s.modOut i f).settings = s.settings := rfl
@[simp] theorem modOut_power (f : OutputLines → OutputLines) : (s.modOut i f).power = s.power := rfl
@[simp] theorem modOut_batch (f : OutputLines → OutputLines) : (s.modOut i f).batch = s.batch := rfl
@[simp] theorem modOut_attention (f : OutputLines → OutputLines) : (s.modOut i f).attention = s.attention := rfl
@[simp] theorem modOut_portA (f : OutputLines → OutputLines) : (s.modOut i f).portA = s.portA := rfl
@[simp] theorem modOut_portB (f : OutputLines → OutputLines) : (s.modOut i f).portB = s.portB := rfl
@[simp] theorem modOut_episode (f : OutputLines → OutputLines) : (s.modOut i f).episode = s.episode := rfl
@[simp] theorem modOut_elapsed (f : OutputLines → OutputLines) : (s.modOut i f).elapsed = s.elapsed := rfl
@[simp] theorem modOut_shelf (f : OutputLines → OutputLines) : (s.modOut i f).shelf = s.shelf := rfl
@[simp] theorem modOut_coincidences (f : OutputLines → OutputLines) :
    (s.modOut i f).coincidences = s.coincidences := rfl
@[simp] theorem modOut_pending (f : OutputLines → OutputLines) : (s.modOut i f).pending = s.pending := rfl

@[simp] theorem modChan_links (f : Channel → Channel) : (s.modChan i f).links = s.links := rfl
@[simp] theorem modChan_settings (f : Channel → Channel) : (s.modChan i f).settings = s.settings := rfl
@[simp] theorem modChan_power (f : Channel → Channel) : (s.modChan i f).power = s.power := rfl
@[simp] theorem modChan_batch (f : Channel → Channel) : (s.modChan i f).batch = s.batch := rfl
@[simp] theorem modChan_attention (f : Channel → Channel) : (s.modChan i f).attention = s.attention := rfl
@[simp] theorem modChan_portA (f : Channel → Channel) : (s.modChan i f).portA = s.portA := rfl
@[simp] theorem modChan_portB (f : Channel → Channel) : (s.modChan i f).portB = s.portB := rfl
@[simp] theorem modChan_episode (f : Channel → Channel) : (s.modChan i f).episode = s.episode := rfl
@[simp] theorem modChan_elapsed (f : Channel → Channel) : (s.modChan i f).elapsed = s.elapsed := rfl
@[simp] theorem modChan_shelf (f : Channel → Channel) : (s.modChan i f).shelf = s.shelf := rfl
@[simp] theorem modChan_coincidences (f : Channel → Channel) : (s.modChan i f).coincidences = s.coincidences := rfl
@[simp] theorem modChan_pending (f : Channel → Channel) : (s.modChan i f).pending = s.pending := rfl

@[simp] theorem mapSlots_links (f : SlotId → Slot → Slot) :
    (s.mapSlots f).links = s.links := by simp only [State.mapSlots]
@[simp] theorem mapSlots_settings (f : SlotId → Slot → Slot) :
    (s.mapSlots f).settings = s.settings := by simp only [State.mapSlots]
@[simp] theorem mapSlots_power (f : SlotId → Slot → Slot) :
    (s.mapSlots f).power = s.power := by simp only [State.mapSlots]
@[simp] theorem mapSlots_batch (f : SlotId → Slot → Slot) :
    (s.mapSlots f).batch = s.batch := by simp only [State.mapSlots]
@[simp] theorem mapSlots_attention (f : SlotId → Slot → Slot) :
    (s.mapSlots f).attention = s.attention := by simp only [State.mapSlots]
@[simp] theorem mapSlots_portA (f : SlotId → Slot → Slot) :
    (s.mapSlots f).portA = s.portA := by simp only [State.mapSlots]
@[simp] theorem mapSlots_portB (f : SlotId → Slot → Slot) :
    (s.mapSlots f).portB = s.portB := by simp only [State.mapSlots]
@[simp] theorem mapSlots_episode (f : SlotId → Slot → Slot) :
    (s.mapSlots f).episode = s.episode := by simp only [State.mapSlots]
@[simp] theorem mapSlots_elapsed (f : SlotId → Slot → Slot) :
    (s.mapSlots f).elapsed = s.elapsed := by simp only [State.mapSlots]
@[simp] theorem mapSlots_shelf (f : SlotId → Slot → Slot) :
    (s.mapSlots f).shelf = s.shelf := by simp only [State.mapSlots]
@[simp] theorem mapSlots_coincidences (f : SlotId → Slot → Slot) :
    (s.mapSlots f).coincidences = s.coincidences := by simp only [State.mapSlots]
@[simp] theorem mapSlots_pending (f : SlotId → Slot → Slot) :
    (s.mapSlots f).pending = s.pending := by simp only [State.mapSlots]

@[simp] theorem modPower_slots (f : PowerAccounts → PowerAccounts) : (s.modPower f).slots = s.slots := rfl
@[simp] theorem modPower_links (f : PowerAccounts → PowerAccounts) : (s.modPower f).links = s.links := rfl
@[simp] theorem modPower_settings (f : PowerAccounts → PowerAccounts) : (s.modPower f).settings = s.settings := rfl
@[simp] theorem modPower_power (f : PowerAccounts → PowerAccounts) : (s.modPower f).power = f s.power := rfl
@[simp] theorem modPower_batch (f : PowerAccounts → PowerAccounts) : (s.modPower f).batch = s.batch := rfl
@[simp] theorem modPower_attention (f : PowerAccounts → PowerAccounts) : (s.modPower f).attention = s.attention := rfl
@[simp] theorem modPower_portA (f : PowerAccounts → PowerAccounts) : (s.modPower f).portA = s.portA := rfl
@[simp] theorem modPower_portB (f : PowerAccounts → PowerAccounts) : (s.modPower f).portB = s.portB := rfl
@[simp] theorem modPower_episode (f : PowerAccounts → PowerAccounts) : (s.modPower f).episode = s.episode := rfl
@[simp] theorem modPower_elapsed (f : PowerAccounts → PowerAccounts) : (s.modPower f).elapsed = s.elapsed := rfl
@[simp] theorem modPower_shelf (f : PowerAccounts → PowerAccounts) : (s.modPower f).shelf = s.shelf := rfl
@[simp] theorem modPower_coincidences (f : PowerAccounts → PowerAccounts) :
    (s.modPower f).coincidences = s.coincidences := rfl
@[simp] theorem modPower_pending (f : PowerAccounts → PowerAccounts) : (s.modPower f).pending = s.pending := rfl
@[simp] theorem modPower_slot (f : PowerAccounts → PowerAccounts) (j : SlotId) :
    (s.modPower f).slot j = s.slot j := rfl
@[simp] theorem modPower_recordOf (f : PowerAccounts → PowerAccounts) (j : SlotId) :
    (s.modPower f).recordOf j = s.recordOf j := rfl
@[simp] theorem modPower_stateOf (f : PowerAccounts → PowerAccounts) (j : SlotId) :
    (s.modPower f).stateOf j = s.stateOf j := rfl
@[simp] theorem modPower_port (f : PowerAccounts → PowerAccounts) (l : Link) :
    (s.modPower f).port l = s.port l := by cases l <;> rfl

@[simp] theorem modBatch_slots (f : Batch → Batch) : (s.modBatch f).slots = s.slots := rfl
@[simp] theorem modBatch_links (f : Batch → Batch) : (s.modBatch f).links = s.links := rfl
@[simp] theorem modBatch_settings (f : Batch → Batch) : (s.modBatch f).settings = s.settings := rfl
@[simp] theorem modBatch_power (f : Batch → Batch) : (s.modBatch f).power = s.power := rfl
@[simp] theorem modBatch_batch (f : Batch → Batch) : (s.modBatch f).batch = f s.batch := rfl
@[simp] theorem modBatch_attention (f : Batch → Batch) : (s.modBatch f).attention = s.attention := rfl
@[simp] theorem modBatch_portA (f : Batch → Batch) : (s.modBatch f).portA = s.portA := rfl
@[simp] theorem modBatch_portB (f : Batch → Batch) : (s.modBatch f).portB = s.portB := rfl
@[simp] theorem modBatch_episode (f : Batch → Batch) : (s.modBatch f).episode = s.episode := rfl
@[simp] theorem modBatch_elapsed (f : Batch → Batch) : (s.modBatch f).elapsed = s.elapsed := rfl
@[simp] theorem modBatch_shelf (f : Batch → Batch) : (s.modBatch f).shelf = s.shelf := rfl
@[simp] theorem modBatch_coincidences (f : Batch → Batch) : (s.modBatch f).coincidences = s.coincidences := rfl
@[simp] theorem modBatch_pending (f : Batch → Batch) : (s.modBatch f).pending = s.pending := rfl
@[simp] theorem modBatch_slot (f : Batch → Batch) (j : SlotId) : (s.modBatch f).slot j = s.slot j := rfl
@[simp] theorem modBatch_recordOf (f : Batch → Batch) (j : SlotId) : (s.modBatch f).recordOf j = s.recordOf j := rfl
@[simp] theorem modBatch_stateOf (f : Batch → Batch) (j : SlotId) : (s.modBatch f).stateOf j = s.stateOf j := rfl
@[simp] theorem modBatch_port (f : Batch → Batch) (l : Link) : (s.modBatch f).port l = s.port l := by cases l <;> rfl

@[simp] theorem modShelf_slots (f : ShelfLines → ShelfLines) : (s.modShelf f).slots = s.slots := rfl
@[simp] theorem modShelf_links (f : ShelfLines → ShelfLines) : (s.modShelf f).links = s.links := rfl
@[simp] theorem modShelf_settings (f : ShelfLines → ShelfLines) : (s.modShelf f).settings = s.settings := rfl
@[simp] theorem modShelf_power (f : ShelfLines → ShelfLines) : (s.modShelf f).power = s.power := rfl
@[simp] theorem modShelf_batch (f : ShelfLines → ShelfLines) : (s.modShelf f).batch = s.batch := rfl
@[simp] theorem modShelf_attention (f : ShelfLines → ShelfLines) : (s.modShelf f).attention = s.attention := rfl
@[simp] theorem modShelf_portA (f : ShelfLines → ShelfLines) : (s.modShelf f).portA = s.portA := rfl
@[simp] theorem modShelf_portB (f : ShelfLines → ShelfLines) : (s.modShelf f).portB = s.portB := rfl
@[simp] theorem modShelf_episode (f : ShelfLines → ShelfLines) : (s.modShelf f).episode = s.episode := rfl
@[simp] theorem modShelf_elapsed (f : ShelfLines → ShelfLines) : (s.modShelf f).elapsed = s.elapsed := rfl
@[simp] theorem modShelf_shelf (f : ShelfLines → ShelfLines) : (s.modShelf f).shelf = f s.shelf := rfl
@[simp] theorem modShelf_coincidences (f : ShelfLines → ShelfLines) :
    (s.modShelf f).coincidences = s.coincidences := rfl
@[simp] theorem modShelf_pending (f : ShelfLines → ShelfLines) : (s.modShelf f).pending = s.pending := rfl
@[simp] theorem modShelf_slot (f : ShelfLines → ShelfLines) (j : SlotId) : (s.modShelf f).slot j = s.slot j := rfl
@[simp] theorem modShelf_recordOf (f : ShelfLines → ShelfLines) (j : SlotId) :
    (s.modShelf f).recordOf j = s.recordOf j := rfl
@[simp] theorem modShelf_stateOf (f : ShelfLines → ShelfLines) (j : SlotId) :
    (s.modShelf f).stateOf j = s.stateOf j := rfl
@[simp] theorem modShelf_port (f : ShelfLines → ShelfLines) (l : Link) :
    (s.modShelf f).port l = s.port l := by cases l <;> rfl

/-! ### Ports -/

@[simp] theorem modPort_slots (l : Link) (f : Port → Port) : (s.modPort l f).slots = s.slots := by cases l <;> rfl
@[simp] theorem modPort_links (l : Link) (f : Port → Port) : (s.modPort l f).links = s.links := by cases l <;> rfl
@[simp] theorem modPort_settings (l : Link) (f : Port → Port) :
    (s.modPort l f).settings = s.settings := by cases l <;> rfl
@[simp] theorem modPort_power (l : Link) (f : Port → Port) : (s.modPort l f).power = s.power := by cases l <;> rfl
@[simp] theorem modPort_batch (l : Link) (f : Port → Port) : (s.modPort l f).batch = s.batch := by cases l <;> rfl
@[simp] theorem modPort_attention (l : Link) (f : Port → Port) :
    (s.modPort l f).attention = s.attention := by cases l <;> rfl
@[simp] theorem modPort_episode (l : Link) (f : Port → Port) :
    (s.modPort l f).episode = s.episode := by cases l <;> rfl
@[simp] theorem modPort_elapsed (l : Link) (f : Port → Port) :
    (s.modPort l f).elapsed = s.elapsed := by cases l <;> rfl
@[simp] theorem modPort_shelf (l : Link) (f : Port → Port) : (s.modPort l f).shelf = s.shelf := by cases l <;> rfl
@[simp] theorem modPort_coincidences (l : Link) (f : Port → Port) :
    (s.modPort l f).coincidences = s.coincidences := by cases l <;> rfl
@[simp] theorem modPort_pending (l : Link) (f : Port → Port) :
    (s.modPort l f).pending = s.pending := by cases l <;> rfl
@[simp] theorem modPort_slot (l : Link) (f : Port → Port) (j : SlotId) : (s.modPort l f).slot j = s.slot j := by
  cases l <;> rfl
@[simp] theorem modPort_recordOf (l : Link) (f : Port → Port) (j : SlotId) :
    (s.modPort l f).recordOf j = s.recordOf j := by
  cases l <;> rfl
@[simp] theorem modPort_stateOf (l : Link) (f : Port → Port) (j : SlotId) :
    (s.modPort l f).stateOf j = s.stateOf j := by
  cases l <;> rfl

@[simp] theorem modPort_port (l m : Link) (f : Port → Port) :
    (s.modPort l f).port m = if m = l then f (s.port l) else s.port m := by cases l <;> cases m <;> rfl

@[simp] theorem other_ne (l : Link) : l.other ≠ l := by cases l <;> decide

@[simp] theorem ne_other (l : Link) : l ≠ l.other := by cases l <;> decide

@[simp] theorem other_other (l : Link) : l.other.other = l := by cases l <;> rfl


@[simp] theorem modSlot_port (f : Slot → Slot) (l : Link) : (s.modSlot i f).port l = s.port l := by cases l <;> rfl
@[simp] theorem modRecord_port (f : SlotRecord → SlotRecord) (l : Link) :
    (s.modRecord i f).port l = s.port l := by cases l <;> rfl
@[simp] theorem modLines_port (f : InputLines → InputLines) (l : Link) :
    (s.modLines i f).port l = s.port l := by cases l <;> rfl
@[simp] theorem modCond_port (f : Conditioning → Conditioning) (l : Link) :
    (s.modCond i f).port l = s.port l := by cases l <;> rfl
@[simp] theorem modOut_port (f : OutputLines → OutputLines) (l : Link) :
    (s.modOut i f).port l = s.port l := by cases l <;> rfl
@[simp] theorem modChan_port (f : Channel → Channel) (l : Link) :
    (s.modChan i f).port l = s.port l := by cases l <;> rfl

/-! ### The Link Table, the events and a step's work -/

@[simp] theorem setLinks_links (f : List LinkEntry → List LinkEntry) :
    (s.setLinks f).links = f s.links := by simp only [State.setLinks, mapSlots_links]
@[simp] theorem setLinks_settings (f : List LinkEntry → List LinkEntry) :
    (s.setLinks f).settings = s.settings := by simp only [State.setLinks, mapSlots_settings]
@[simp] theorem setLinks_power (f : List LinkEntry → List LinkEntry) :
    (s.setLinks f).power = s.power := by simp only [State.setLinks, mapSlots_power]
@[simp] theorem setLinks_batch (f : List LinkEntry → List LinkEntry) :
    (s.setLinks f).batch = s.batch := by simp only [State.setLinks, mapSlots_batch]
@[simp] theorem setLinks_attention (f : List LinkEntry → List LinkEntry) :
    (s.setLinks f).attention = s.attention := by simp only [State.setLinks, mapSlots_attention]
@[simp] theorem setLinks_portA (f : List LinkEntry → List LinkEntry) :
    (s.setLinks f).portA = s.portA := by simp only [State.setLinks, mapSlots_portA]
@[simp] theorem setLinks_portB (f : List LinkEntry → List LinkEntry) :
    (s.setLinks f).portB = s.portB := by simp only [State.setLinks, mapSlots_portB]
@[simp] theorem setLinks_episode (f : List LinkEntry → List LinkEntry) :
    (s.setLinks f).episode = s.episode := by simp only [State.setLinks, mapSlots_episode]
@[simp] theorem setLinks_elapsed (f : List LinkEntry → List LinkEntry) :
    (s.setLinks f).elapsed = s.elapsed := by simp only [State.setLinks, mapSlots_elapsed]
@[simp] theorem setLinks_shelf (f : List LinkEntry → List LinkEntry) :
    (s.setLinks f).shelf = s.shelf := by simp only [State.setLinks, mapSlots_shelf]
@[simp] theorem setLinks_coincidences (f : List LinkEntry → List LinkEntry) :
    (s.setLinks f).coincidences = s.coincidences := by simp only [State.setLinks, mapSlots_coincidences]
@[simp] theorem setLinks_pending (f : List LinkEntry → List LinkEntry) :
    (s.setLinks f).pending = s.pending := by simp only [State.setLinks, mapSlots_pending]
@[simp] theorem judge_slots : s.judge.slots = s.slots := rfl
@[simp] theorem judge_links : s.judge.links = s.links := rfl
@[simp] theorem judge_settings : s.judge.settings = s.settings := rfl
@[simp] theorem judge_power : s.judge.power = s.power := rfl
@[simp] theorem judge_batch : s.judge.batch = s.batch := rfl
@[simp] theorem judge_portA : s.judge.portA = s.portA := rfl
@[simp] theorem judge_portB : s.judge.portB = s.portB := rfl
@[simp] theorem judge_episode : s.judge.episode = s.episode := rfl
@[simp] theorem judge_elapsed : s.judge.elapsed = s.elapsed := rfl
@[simp] theorem judge_shelf : s.judge.shelf = s.shelf := rfl
@[simp] theorem judge_coincidences : s.judge.coincidences = s.coincidences := rfl
@[simp] theorem judge_pending : s.judge.pending = s.pending := rfl
@[simp] theorem modEvent_slots (k : EventKey) (f : PendingEntry → PendingEntry) :
    (s.modEvent k f).slots = s.slots := rfl
@[simp] theorem modEvent_links (k : EventKey) (f : PendingEntry → PendingEntry) :
    (s.modEvent k f).links = s.links := rfl
@[simp] theorem modEvent_settings (k : EventKey) (f : PendingEntry → PendingEntry) :
    (s.modEvent k f).settings = s.settings := rfl
@[simp] theorem modEvent_power (k : EventKey) (f : PendingEntry → PendingEntry) :
    (s.modEvent k f).power = s.power := rfl
@[simp] theorem modEvent_batch (k : EventKey) (f : PendingEntry → PendingEntry) :
    (s.modEvent k f).batch = s.batch := rfl
@[simp] theorem modEvent_portA (k : EventKey) (f : PendingEntry → PendingEntry) :
    (s.modEvent k f).portA = s.portA := rfl
@[simp] theorem modEvent_portB (k : EventKey) (f : PendingEntry → PendingEntry) :
    (s.modEvent k f).portB = s.portB := rfl
@[simp] theorem modEvent_episode (k : EventKey) (f : PendingEntry → PendingEntry) :
    (s.modEvent k f).episode = s.episode := rfl
@[simp] theorem modEvent_elapsed (k : EventKey) (f : PendingEntry → PendingEntry) :
    (s.modEvent k f).elapsed = s.elapsed := rfl
@[simp] theorem modEvent_shelf (k : EventKey) (f : PendingEntry → PendingEntry) :
    (s.modEvent k f).shelf = s.shelf := rfl
@[simp] theorem modEvent_coincidences (k : EventKey) (f : PendingEntry → PendingEntry) :
    (s.modEvent k f).coincidences = s.coincidences := rfl
@[simp] theorem modEvent_pending (k : EventKey) (f : PendingEntry → PendingEntry) :
    (s.modEvent k f).pending = s.pending := rfl
@[simp] theorem post_slots (k : EventKey) (d : Detail) : (s.post k d).slots = s.slots := rfl
@[simp] theorem post_links (k : EventKey) (d : Detail) : (s.post k d).links = s.links := rfl
@[simp] theorem post_settings (k : EventKey) (d : Detail) : (s.post k d).settings = s.settings := rfl
@[simp] theorem post_power (k : EventKey) (d : Detail) : (s.post k d).power = s.power := rfl
@[simp] theorem post_batch (k : EventKey) (d : Detail) : (s.post k d).batch = s.batch := rfl
@[simp] theorem post_portA (k : EventKey) (d : Detail) : (s.post k d).portA = s.portA := rfl
@[simp] theorem post_portB (k : EventKey) (d : Detail) : (s.post k d).portB = s.portB := rfl
@[simp] theorem post_episode (k : EventKey) (d : Detail) : (s.post k d).episode = s.episode := rfl
@[simp] theorem post_elapsed (k : EventKey) (d : Detail) : (s.post k d).elapsed = s.elapsed := rfl
@[simp] theorem post_shelf (k : EventKey) (d : Detail) : (s.post k d).shelf = s.shelf := rfl
@[simp] theorem post_coincidences (k : EventKey) (d : Detail) : (s.post k d).coincidences = s.coincidences := rfl
@[simp] theorem post_pending (k : EventKey) (d : Detail) : (s.post k d).pending = s.pending := rfl
@[simp] theorem postSlot_slots (c : SlotClass) (d : Detail) : (s.postSlot i c d).slots = s.slots := rfl
@[simp] theorem postSlot_links (c : SlotClass) (d : Detail) : (s.postSlot i c d).links = s.links := rfl
@[simp] theorem postSlot_settings (c : SlotClass) (d : Detail) : (s.postSlot i c d).settings = s.settings := rfl
@[simp] theorem postSlot_power (c : SlotClass) (d : Detail) : (s.postSlot i c d).power = s.power := rfl
@[simp] theorem postSlot_batch (c : SlotClass) (d : Detail) : (s.postSlot i c d).batch = s.batch := rfl
@[simp] theorem postSlot_portA (c : SlotClass) (d : Detail) : (s.postSlot i c d).portA = s.portA := rfl
@[simp] theorem postSlot_portB (c : SlotClass) (d : Detail) : (s.postSlot i c d).portB = s.portB := rfl
@[simp] theorem postSlot_episode (c : SlotClass) (d : Detail) : (s.postSlot i c d).episode = s.episode := rfl
@[simp] theorem postSlot_elapsed (c : SlotClass) (d : Detail) : (s.postSlot i c d).elapsed = s.elapsed := rfl
@[simp] theorem postSlot_shelf (c : SlotClass) (d : Detail) : (s.postSlot i c d).shelf = s.shelf := rfl
@[simp] theorem postSlot_coincidences (c : SlotClass) (d : Detail) :
    (s.postSlot i c d).coincidences = s.coincidences := rfl
@[simp] theorem postSlot_pending (c : SlotClass) (d : Detail) : (s.postSlot i c d).pending = s.pending := rfl
@[simp] theorem postShelf_slots (c : ShelfClass) (d : Detail) : (s.postShelf c d).slots = s.slots := rfl
@[simp] theorem postShelf_links (c : ShelfClass) (d : Detail) : (s.postShelf c d).links = s.links := rfl
@[simp] theorem postShelf_settings (c : ShelfClass) (d : Detail) : (s.postShelf c d).settings = s.settings := rfl
@[simp] theorem postShelf_power (c : ShelfClass) (d : Detail) : (s.postShelf c d).power = s.power := rfl
@[simp] theorem postShelf_batch (c : ShelfClass) (d : Detail) : (s.postShelf c d).batch = s.batch := rfl
@[simp] theorem postShelf_portA (c : ShelfClass) (d : Detail) : (s.postShelf c d).portA = s.portA := rfl
@[simp] theorem postShelf_portB (c : ShelfClass) (d : Detail) : (s.postShelf c d).portB = s.portB := rfl
@[simp] theorem postShelf_episode (c : ShelfClass) (d : Detail) : (s.postShelf c d).episode = s.episode := rfl
@[simp] theorem postShelf_elapsed (c : ShelfClass) (d : Detail) : (s.postShelf c d).elapsed = s.elapsed := rfl
@[simp] theorem postShelf_shelf (c : ShelfClass) (d : Detail) : (s.postShelf c d).shelf = s.shelf := rfl
@[simp] theorem postShelf_coincidences (c : ShelfClass) (d : Detail) :
    (s.postShelf c d).coincidences = s.coincidences := rfl
@[simp] theorem postShelf_pending (c : ShelfClass) (d : Detail) : (s.postShelf c d).pending = s.pending := rfl

@[simp] theorem judge_levels : s.judge.attention.levels = s.attention.levels := rfl

@[simp] theorem judge_entry (k : EventKey) : s.judge.attention.entry k = s.attention.entry k := by cases k <;> rfl

@[simp] theorem judge_slot (j : SlotId) : s.judge.slot j = s.slot j := rfl

@[simp] theorem judge_port (l : Link) : s.judge.port l = s.port l := by cases l <;> rfl

@[simp] theorem post_slot (k : EventKey) (d : Detail) (j : SlotId) : (s.post k d).slot j = s.slot j := rfl

@[simp] theorem post_port (k : EventKey) (d : Detail) (l : Link) : (s.post k d).port l = s.port l := by cases l <;> rfl

@[simp] theorem setLinks_slot (f : List LinkEntry → List LinkEntry) (j : SlotId) :
    (s.setLinks f).slot j = { s.slot j with out := (s.slot j).out.driveLanes (f s.links) j } := by
  rw [State.setLinks, mapSlots_slot, State.slot, State.slot]

@[simp] theorem setLinks_recordOf (f : List LinkEntry → List LinkEntry) (j : SlotId) :
    (s.setLinks f).recordOf j = s.recordOf j := by simp [State.recordOf]

@[simp] theorem setLinks_stateOf (f : List LinkEntry → List LinkEntry) (j : SlotId) :
    (s.setLinks f).stateOf j = s.stateOf j := by simp [State.stateOf]

@[simp] theorem setLinks_port (f : List LinkEntry → List LinkEntry) (l : Link) : (s.setLinks f).port l = s.port l := by
  cases l <;> simp [State.port]

@[simp] theorem start_st : (Work.start s).st = s := rfl

@[simp] theorem start_todo : (Work.start s).todo = [] := rfl

@[simp] theorem on_st (f : State → State) (w : Work) : (w.on f).st = f w.st := rfl

@[simp] theorem on_todo (f : State → State) (w : Work) : (w.on f).todo = w.todo := rfl

@[simp] theorem hand_st (hs : List Handover) (w : Work) : (w.hand hs).st = w.st := rfl

@[simp] theorem hand_todo (hs : List Handover) (w : Work) : (w.hand hs).todo = w.todo ++ hs := rfl

/-- A slot's record, state and engine are read from its slot. -/
theorem recordOf_eq (j : SlotId) : s.recordOf j = (s.slot j).record := rfl

theorem stateOf_eq (j : SlotId) : s.stateOf j = (s.recordOf j).state := rfl

/-- Two states with the same slots, one by one, have the same slots. -/
theorem slots_ext {t : State} (h : ∀ j : SlotId, t.slot j = s.slot j) : t.slots = s.slots := by
  apply Vector.ext
  intro n hn
  exact h ⟨n, hn⟩

end Fields

end Sys2Proof.Laws
end

