-- ==== Sys2Proof/Laws/Moves.lean ====
section
/-! SUPPORT. What a move of a slot can do (R1), what the lists of slots hold after it, and what a posting can do
(R147). -/

namespace Sys2Proof.Laws

open Sys2Proof Sys2Proof.Machine

/-! ### Lists of slots -/

/-- A list without a slot holds the others. -/
@[simp] theorem mem_without (i j : SlotId) (l : List SlotId) : j ∈ without i l ↔ j ∈ l ∧ j ≠ i := by
  simp [without]

/-- A list loses no more than the slot. -/
theorem nodup_without (i : SlotId) (l : List SlotId) (h : l.Nodup) : (without i l).Nodup := h.filter _

/-- A slot that is not on a list is not missed. -/
theorem without_absent (i : SlotId) (l : List SlotId) (h : i ∉ l) : without i l = l := by
  simp only [without, List.filter_eq_self, bne_iff_ne]
  exact fun j hj e => h (e ▸ hj)

/-- A list with a slot inserted holds it and the others. -/
@[simp] theorem mem_insertSlot (before : SlotId → SlotId → Bool) (i j : SlotId) (l : List SlotId) :
    j ∈ insertSlot before i l ↔ j = i ∨ j ∈ l := by
  induction l with
  | nil => simp [insertSlot]
  | cons a t ih =>
    unfold insertSlot
    split
    · simp
    · simp [ih]; tauto

/-- Inserting a slot adds it once, wherever it goes. -/
theorem insertSlot_perm (before : SlotId → SlotId → Bool) (i : SlotId) (l : List SlotId) :
    (insertSlot before i l).Perm (i :: l) := by
  induction l with
  | nil => exact List.Perm.refl _
  | cons a t ih =>
    unfold insertSlot
    split
    · exact List.Perm.refl _
    · exact (ih.cons a).trans (List.Perm.swap i a t)

/-- A list with a slot inserted that it did not hold holds each slot once. -/
theorem nodup_insertSlot (before : SlotId → SlotId → Bool) (i : SlotId) (l : List SlotId) (h : l.Nodup) (hi : i ∉ l) :
    (insertSlot before i l).Nodup := (insertSlot_perm before i l).nodup_iff.2 (List.nodup_cons.2 ⟨hi, h⟩)

/-- Taking a slot out of a list and putting it back once keeps the list free of repeats. -/
theorem nodup_reinsert (before : SlotId → SlotId → Bool) (i : SlotId) (l : List SlotId) (h : l.Nodup) :
    (insertSlot before i (without i l)).Nodup :=
  nodup_insertSlot before i _ (nodup_without i l h) (by simp)

/-- Taking the inserted slot out again leaves the rest in its order. -/
theorem without_insertSlot (before : SlotId → SlotId → Bool) (i : SlotId) (l : List SlotId) :
    without i (insertSlot before i l) = without i l := by
  induction l with
  | nil => simp [insertSlot, without]
  | cons a t ih =>
    unfold insertSlot
    split
    · simp [without]
    · simp only [without, List.filter_cons] at ih ⊢
      rw [ih]

/-! ### Moves -/

section Enter

variable (s : State) (i j : SlotId) (new : SlotState) (why : Option ReasonCode)

/-- A move changes the slot by its tables and no other slot. -/
@[simp] theorem enter_slot :
    (s.enter i new why).slot j = if j = i then Slot.enter s.settings new why (s.slot i) else s.slot j := by
  simp [State.enter]

@[simp] theorem enter_stateOf : (s.enter i new why).stateOf j = if j = i then new else s.stateOf j := by
  rw [stateOf_eq, recordOf_eq, enter_slot]
  split <;> rfl

@[simp] theorem enter_recordOf :
    (s.enter i new why).recordOf j = if j = i then (s.recordOf i).enter s.settings new why else s.recordOf j := by
  rw [recordOf_eq, enter_slot]
  split <;> rfl

/-- A move places the slot on the PAU's lists by its new state and subtracts a released grant. -/
@[simp] theorem enter_power :
    (s.enter i new why).power = (s.power.releaseGrant (s.recordOf i) new).follow s i new := by
  simp [State.enter]

@[simp] theorem enter_links : (s.enter i new why).links = s.links := rfl
@[simp] theorem enter_settings : (s.enter i new why).settings = s.settings := rfl
@[simp] theorem enter_batch : (s.enter i new why).batch = s.batch := rfl
@[simp] theorem enter_attention : (s.enter i new why).attention = s.attention := rfl
@[simp] theorem enter_portA : (s.enter i new why).portA = s.portA := rfl
@[simp] theorem enter_portB : (s.enter i new why).portB = s.portB := rfl
@[simp] theorem enter_episode : (s.enter i new why).episode = s.episode := rfl
@[simp] theorem enter_elapsed : (s.enter i new why).elapsed = s.elapsed := rfl
@[simp] theorem enter_shelf : (s.enter i new why).shelf = s.shelf := rfl
@[simp] theorem enter_coincidences : (s.enter i new why).coincidences = s.coincidences := rfl
@[simp] theorem enter_pending : (s.enter i new why).pending = s.pending := rfl

/-- The lists after a move, by the new state. -/
theorem enter_mem :
    (j ∈ (s.enter i new why).power.waitList ↔ if j = i then new = .budgetWait else j ∈ s.power.waitList) ∧
    (j ∈ (s.enter i new why).power.permitQueue ↔ if j = i then new = .queued else j ∈ s.power.permitQueue) ∧
    (j ∈ (s.enter i new why).power.holders ↔ if j = i then new = .charging else j ∈ s.power.holders) := by
  by_cases h : j = i
  · subst h
    simp only [enter_power, PowerAccounts.follow, if_true]
    refine ⟨?_, ?_, ?_⟩ <;> split <;> simp_all
  · simp only [enter_power, PowerAccounts.follow, PowerAccounts.releaseGrant, if_neg h]
    refine ⟨?_, ?_, ?_⟩ <;> split <;> simp [h]

/-- S after a move: less by the grant the slot held reserved, where the new state releases it (R63, R64). -/
theorem enter_sum :
    (s.enter i new why).power.sumOfGrants =
      if new.releasesGrant = true then s.power.sumOfGrants - (s.recordOf i).reservedGrant
      else s.power.sumOfGrants := by
  simp [PowerAccounts.follow, PowerAccounts.releaseGrant]

/-- A move inside a step: the state after it, and what it hands over. -/
@[simp] theorem work_enter_st (w : Work) : (w.enter i new why).st = w.st.enter i new why := rfl

@[simp] theorem work_enter_todo (w : Work) :
    (w.enter i new why).todo = w.todo ++ (w.st.slot i).handsOver i new := rfl

end Enter

/-- A move hands nothing over when FLT_L is high, or no enable turns ON, and the presence filter does not enter DEBOUNCE
against its line (R22, R24). -/
theorem handsOver_nil (i : SlotId) (new : SlotState) (x : Slot)
    (hf : x.lines.fltL = .high ∨ x.out.turnsOn (outputUpdate new x.record) = false)
    (hp : new.debounces = false ∨ x.record.state.debounces = true ∨ x.cond.present = (x.lines.presL == .low)) :
    x.handsOver i new = [] := by
  unfold Slot.handsOver edgeOnEntry
  rcases hf with hf | hf <;> rcases hp with hp | hp | hp <;> simp [hf, hp]

/-- The enables after a move are those of the new state, whatever they were (R28, R29). -/
theorem enter_enables (set : ShelfSettings) (new : SlotState) (why : Option ReasonCode) (x : Slot) :
    (Slot.enter set new why x).out.preEn = new.preEnOn ∧ (Slot.enter set new why x).out.mainEn = new.mainEnOn ∧
      (Slot.enter set new why x).out.ilim = ilimCode new x.record ∧
      (Slot.enter set new why x).out.led = new.ledPattern ∧
      (Slot.enter set new why x).out.laneEnA = x.out.laneEnA ∧
      (Slot.enter set new why x).out.laneEnB = x.out.laneEnB := by
  unfold Slot.enter OutputLines.apply OutputLines.setLed OutputLines.turnOn OutputLines.driveIlim OutputLines.turnOff
    outputUpdate
  split
  · rename_i h
    simp_all
  · simp

/-! ### Events -/

section Events

variable (s : State) (k : EventKey) (d : Detail)

/-- Writing one entry leaves every other as it was. -/
@[simp] theorem modEntry_entry (t : Attention) (f : PendingEntry → PendingEntry) (k' : EventKey) :
    (t.modEntry k f).entry k' = if k' = k then f (t.entry k) else t.entry k' := by
  cases k with
  | slot i c =>
    cases k' with
    | shelf c' => simp [Attention.modEntry, Attention.entry]
    | slot j c' =>
      by_cases hi : j = i
      · subst hi
        by_cases hc : c' = c
        · subst hc; simp [Attention.modEntry, Attention.entry]
        · have hx : c.index.val ≠ c'.index.val := by revert hc; cases c <;> cases c' <;> decide
          simp [Attention.modEntry, Attention.entry, hc, hx]
      · have hx : i.val ≠ j.val := fun e => hi (Fin.ext e.symm)
        simp [Attention.modEntry, Attention.entry, hi, hx]
  | shelf c =>
    cases k' with
    | slot j c' => simp [Attention.modEntry, Attention.entry]
    | shelf c' =>
      by_cases hc : c' = c
      · subst hc; simp [Attention.modEntry, Attention.entry]
      · have hx : c.index.val ≠ c'.index.val := by revert hc; cases c <;> cases c' <;> decide
        simp [Attention.modEntry, Attention.entry, hc, hx]

@[simp] theorem modEntry_levels (t : Attention) (f : PendingEntry → PendingEntry) :
    (t.modEntry k f).levels = t.levels := by cases k <;> rfl

@[simp] theorem modEvent_entry (f : PendingEntry → PendingEntry) (k' : EventKey) :
    (s.modEvent k f).attention.entry k' = if k' = k then f (s.attention.entry k) else s.attention.entry k' := by
  rw [State.modEvent, judge_entry, modEntry_entry]

@[simp] theorem modEvent_levels (f : PendingEntry → PendingEntry) :
    (s.modEvent k f).attention.levels = s.attention.levels := by rw [State.modEvent, judge_levels, modEntry_levels]

/-- A posting: the entry is pending with the detail, repeated where it was pending, and every other entry stays. -/
@[simp] theorem post_entry (k' : EventKey) :
    (s.post k d).attention.entry k' =
      if k' = k then { pending := true, repeated := (s.attention.entry k).pending, detail := some d }
      else s.attention.entry k' := by
  rw [State.post, modEvent_entry]; rfl

@[simp] theorem post_levels : (s.post k d).attention.levels = s.attention.levels := modEvent_levels s k _

/-- Judging sets the lines for the entries, the levels and the ports as they stand (R154). -/
theorem attnLevel_judge (l : Link) : attnLevel s.judge l = attnLevel s l := by
  have he : deliverable s.judge.attention = deliverable s.attention := by
    funext p k; simp only [deliverable, judge_entry, Attention.levelOf, judge_levels]; rfl
  have ho : offered s.judge.attention = offered s.attention := by
    funext k; simp only [offered, judge_entry, Attention.levelOf, judge_levels]; rfl
  simp only [attnLevel, State.anyActive, judge_portA, judge_portB, judge_port, he, ho]; rfl

/-- After a judgement the lines show what is deliverable. -/
theorem judge_lines :
    s.judge.attention.attnA = attnLevel s.judge .a ∧ s.judge.attention.attnB = attnLevel s.judge .b := by
  simp only [attnLevel_judge]
  exact ⟨rfl, rfl⟩

/-- After a posting the lines show what is deliverable. -/
theorem post_lines :
    (s.post k d).attention.attnA = attnLevel (s.post k d) .a ∧
      (s.post k d).attention.attnB = attnLevel (s.post k d) .b := judge_lines _

end Events

end Sys2Proof.Laws
end

