-- ==== Sys2Proof/Laws/Lanes.lean ====
section
/-! SUPPORT. What the Lane Manager's and the Slot Channel Engine's operations can do (chapters 5 and 6). -/

namespace Sys2Proof.Laws

open Sys2Proof Sys2Proof.Machine

/-! ### The queue -/

/-- The engine in a transfer or a pause chooses nothing (R83). -/
theorem choose_busy (c : Channel) (h : c.transfer.isSome = true ∨ c.pause.isSome = true) : c.choose = c := by
  unfold Channel.choose
  rcases h with h | h <;> simp [h]

/-- An engine without work stays idle (R83). -/
theorem choose_idle (c : Channel) (hi : c.identityDue = false) (hn : c.noticePending = false) (hq : c.cueQueue = []) :
    c.choose = c := by
  unfold Channel.choose
  split
  · rfl
  · simp [hi, hn, hq, Channel.beginCue]

/-- Placing a cue keeps at most one cue of each group, and every other group's cues in their order (R91). -/
theorem placeCue_groups (c : Cue) (q : List Cue) (h : (q.map Cue.group).Nodup) :
    ((placeCue c q).1.map Cue.group).Nodup ∧
      withoutGroup c.group (placeCue c q).1 = withoutGroup c.group q := by
  have hsub : ((withoutGroup c.group q).map Cue.group).Nodup :=
    List.Nodup.sublist (List.Sublist.map _ List.filter_sublist) h
  have hgo : ∀ l : List Cue, withoutGroup c.group (withoutGroup c.group l) = withoutGroup c.group l := by
    intro l; simp [withoutGroup]
  have hadd : withoutGroup c.group (withoutGroup c.group q ++ [c]) = withoutGroup c.group q := by
    simp [withoutGroup]
  have hnod : ((withoutGroup c.group q ++ [c]).map Cue.group).Nodup := by
    rw [List.map_append, List.nodup_append]
    refine ⟨hsub, by simp, ?_⟩
    intro a ha b hb
    simp only [List.map_cons, List.map_nil, List.mem_singleton] at hb
    subst hb
    simp only [List.mem_map, withoutGroup, List.mem_filter, bne_iff_ne] at ha
    obtain ⟨d, ⟨_, hd⟩, rfl⟩ := ha
    exact hd
  unfold placeCue
  split
  · rename_i hp
    have hq : withoutGroup c.group q = q := by
      simp only [withoutGroup, List.filter_eq_self, bne_iff_ne]
      intro d hd
      simpa using (List.find?_eq_none.1 hp) d hd
    exact ⟨by rw [hq] at hnod; exact hnod, by simp [withoutGroup]⟩
  · split
    · exact ⟨hsub, hgo q⟩
    · exact ⟨hnod, hadd⟩

/-! ### Entries -/

/-- Changing one pair's entry changes the lookup of that pair only. -/
theorem modPair_entry (s : State) (p h : SlotId) (f : LinkEntry → LinkEntry)
    (hf : ∀ e, (f e).payload = e.payload ∧ (f e).hubSlot = e.hubSlot) (p' h' : SlotId) :
    (s.modPair p h f).entry p' h' = if p' = p ∧ h' = h then (s.entry p h).map f else s.entry p' h' := by
  have key : ∀ l : List LinkEntry,
      (l.map fun e => if e.isPair p h then f e else e).find? (LinkEntry.isPair p' h') =
        if p' = p ∧ h' = h then (l.find? (LinkEntry.isPair p h)).map f else l.find? (LinkEntry.isPair p' h') := by
    intro l
    induction l with
    | nil => simp
    | cons e t ih =>
      have hpair : ∀ a b : SlotId, LinkEntry.isPair a b (if e.isPair p h = true then f e else e) = e.isPair a b := by
        intro a b
        split <;> simp [LinkEntry.isPair, hf e]
      rw [List.map_cons, List.find?_cons, hpair, ih, List.find?_cons, List.find?_cons]
      by_cases hc : p' = p ∧ h' = h
      · obtain ⟨rfl, rfl⟩ := hc
        cases he : e.isPair p' h' <;> simp
      · rw [if_neg hc, if_neg hc]
        cases he : e.isPair p' h' with
        | false => rfl
        | true =>
          have hno : e.isPair p h = false := by
            simp only [LinkEntry.isPair, Bool.and_eq_true, beq_iff_eq] at he
            obtain ⟨rfl, rfl⟩ := he
            simp only [LinkEntry.isPair, Bool.and_eq_false_iff, beq_eq_false_iff_ne]
            by_contra hn
            simp only [not_or, not_not] at hn
            exact hc hn
          simp [hno]
  simp only [State.entry, State.modPair, setLinks_links, key]

/-- After any change of the table the lane enables are those of the table (R32, R98). -/
theorem setLinks_lanes (s : State) (f : List LinkEntry → List LinkEntry) (i : SlotId) :
    ((s.setLinks f).slot i).out.laneEnA = switchedOn (s.setLinks f).links i .a ∧
      ((s.setLinks f).slot i).out.laneEnB = switchedOn (s.setLinks f).links i .b := by
  rw [setLinks_slot, setLinks_links]
  exact ⟨rfl, rfl⟩

/-! ### What no lane operation touches -/

/-- The part of the state no lane operation touches: records, lines, filters, power outputs, and every field but the
slots and the Link Table. -/
def SameButLanes (s t : State) : Prop :=
  (∀ j : SlotId, t.recordOf j = s.recordOf j ∧ (t.slot j).lines = (s.slot j).lines ∧
    (t.slot j).cond = (s.slot j).cond ∧ (t.slot j).out.preEn = (s.slot j).out.preEn ∧
    (t.slot j).out.mainEn = (s.slot j).out.mainEn ∧ (t.slot j).out.ilim = (s.slot j).out.ilim ∧
    (t.slot j).out.led = (s.slot j).out.led ∧ (t.slot j).out.lit = (s.slot j).out.lit ∧
    (t.slot j).out.blink = (s.slot j).out.blink) ∧
  t.settings = s.settings ∧ t.power = s.power ∧ t.batch = s.batch ∧ t.attention = s.attention ∧ t.portA = s.portA ∧
  t.portB = s.portB ∧ t.episode = s.episode ∧ t.elapsed = s.elapsed ∧ t.shelf = s.shelf ∧
  t.coincidences = s.coincidences ∧ t.pending = s.pending

theorem SameButLanes.refl (s : State) : SameButLanes s s :=
  ⟨fun _ => ⟨rfl, rfl, rfl, rfl, rfl, rfl, rfl, rfl, rfl⟩, rfl, rfl, rfl, rfl, rfl, rfl, rfl, rfl, rfl, rfl, rfl⟩

theorem SameButLanes.trans {s t u : State} (h1 : SameButLanes s t) (h2 : SameButLanes t u) : SameButLanes s u := by
  obtain ⟨a, b⟩ := h1
  obtain ⟨c, d⟩ := h2
  refine ⟨fun j => ?_, ?_⟩
  · obtain ⟨a1, a2, a3, a4, a5, a6, a7, a8, a9⟩ := a j
    obtain ⟨c1, c2, c3, c4, c5, c6, c7, c8, c9⟩ := c j
    exact ⟨c1.trans a1, c2.trans a2, c3.trans a3, c4.trans a4, c5.trans a5, c6.trans a6, c7.trans a7, c8.trans a8,
      c9.trans a9⟩
  · obtain ⟨b1, b2, b3, b4, b5, b6, b7, b8, b9, b10, b11⟩ := b
    obtain ⟨d1, d2, d3, d4, d5, d6, d7, d8, d9, d10, d11⟩ := d
    exact ⟨d1.trans b1, d2.trans b2, d3.trans b3, d4.trans b4, d5.trans b5, d6.trans b6, d7.trans b7, d8.trans b8,
      d9.trans b9, d10.trans b10, d11.trans b11⟩

/-- A change of the table. -/
theorem setLinks_same (s : State) (f : List LinkEntry → List LinkEntry) : SameButLanes s (s.setLinks f) := by
  refine ⟨fun j => ?_, by simp⟩
  simp only [setLinks_slot, setLinks_recordOf, OutputLines.driveLanes, and_self]

theorem modPair_same (s : State) (p h : SlotId) (f : LinkEntry → LinkEntry) : SameButLanes s (s.modPair p h f) :=
  setLinks_same s _

/-- A change of an engine. -/
theorem modChan_same (s : State) (i : SlotId) (f : Channel → Channel) : SameButLanes s (s.modChan i f) := by
  refine ⟨fun j => ?_, by simp⟩
  rw [modChan_recordOf, modChan_slot]
  split
  · rename_i h; subst h; simp
  · simp

/-- The taking of a report (R91, R101, R104). -/
theorem takeReport_same (s : State) (p : SlotId) (r : CueReport) : SameButLanes s (s.takeReport p r) := by
  cases r with
  | nothing => exact SameButLanes.refl s
  | linkUpCancelled h => exact modPair_same s _ _ _
  | drained h a => exact modPair_same s _ _ _

/-- The offer of a cue (R90, R91): it changes an engine's queue and, where cues meet, an entry. -/
theorem offer_same (s : State) (p : SlotId) (c : Cue) : SameButLanes s (s.offer p c) := by
  unfold State.offer
  split
  · exact ((modChan_same _ _ _).trans (takeReport_same _ _ _)).trans (modChan_same _ _ _)
  · exact SameButLanes.refl s

/-- A cue offered outside the conversing states is discarded (R90). -/
theorem offer_discarded (s : State) (p : SlotId) (c : Cue) (h : (s.stateOf p).conversing = false) :
    s.offer p c = s := by simp [State.offer, h]

theorem announce_same (s : State) (p h : SlotId) : SameButLanes s (s.announce p h) :=
  (offer_same s p _).trans (modPair_same _ _ _ _)

theorem joinWhere_same (s : State) (sel : LinkEntry → Bool) : SameButLanes s (s.joinWhere sel) := setLinks_same s _

theorem considerJoins_same (s : State) (i : SlotId) : SameButLanes s (s.considerJoins i) := joinWhere_same s _

theorem openJoining_same (s : State) (i : SlotId) : SameButLanes s (s.openJoining i) := setLinks_same s _

/-- A walk over pairs touches no more than its steps do. -/
theorem foldl_same {α : Type} (f : State → α → State) (hf : ∀ s a, SameButLanes s (f s a)) :
    ∀ (l : List α) (s : State), SameButLanes s (l.foldl f s)
  | [], s => SameButLanes.refl s
  | a :: t, s => (hf s a).trans (foldl_same f hf t (f s a))

theorem drainPair_same (s : State) (ph : SlotId × SlotId) : SameButLanes s (s.drainPair ph) := by
  unfold State.drainPair
  split
  · exact SameButLanes.refl s
  · split
    · split
      · exact modPair_same s _ _ _
      · exact (modPair_same s _ _ _).trans (offer_same _ _ _)
    · exact modPair_same s _ _ _
    · exact SameButLanes.refl s
    · exact SameButLanes.refl s
    · exact SameButLanes.refl s

/-- Asking for drains (R102). -/
theorem drainAsk_same (s : State) (i : SlotId) : SameButLanes s (s.drainAsk i) := foldl_same _ drainPair_same _ s

theorem openPair_same (tell : LinkEntry → Bool) (s : State) (ph : SlotId × SlotId) :
    SameButLanes s (State.openPair tell s ph) := by
  unfold State.openPair
  split
  · exact SameButLanes.refl s
  · split
    · dsimp only
      split
      · exact (modPair_same s _ _ _).trans (offer_same _ _ _)
      · exact modPair_same s _ _ _
    · exact SameButLanes.refl s

/-- Opening every entry of a slot (R106, R107): the lanes, and drained reports handed over. -/
theorem openTouching_same (tell : LinkEntry → Bool) (i : SlotId) (w : Work) :
    SameButLanes w.st (w.openTouching tell i).st := foldl_same _ (openPair_same tell) _ w.st

theorem undrainPair_same (i : SlotId) (s : State) (ph : SlotId × SlotId) :
    SameButLanes s (State.undrainPair i s ph) := by
  unfold State.undrainPair
  split
  · exact SameButLanes.refl s
  · split
    · dsimp only
      split
      · exact (modPair_same s _ _ _).trans (offer_same _ _ _)
      · exact (modPair_same s _ _ _).trans (announce_same _ _ _)
    · exact SameButLanes.refl s

/-- The return of a drained slot's entries (R108). -/
theorem undrain_same (s : State) (i : SlotId) : SameButLanes s (s.undrain i) :=
  foldl_same _ (undrainPair_same i) _ s

theorem decidePair_same (s : State) (ph : SlotId × SlotId) : SameButLanes s (s.decidePair ph) := by
  unfold State.decidePair
  split
  · exact SameButLanes.refl s
  · split
    · exact (modPair_same s _ _ _).trans (announce_same _ _ _)
    · exact SameButLanes.refl s

/-- The decision of held entries (R173). -/
theorem decideHeld_same (s : State) (i : SlotId) : SameButLanes s (s.decideHeld i) := foldl_same _ decidePair_same _ s

theorem renamePair_same (s : State) (ph : SlotId × SlotId) : SameButLanes s (s.renamePair ph) := by
  unfold State.renamePair
  split
  · split
    · exact SameButLanes.refl s
    · exact (openPair_same _ _ _).trans (modPair_same _ _ _ _)
  · exact SameButLanes.refl s

theorem dropHubCues_same (s : State) (e : LinkEntry) : SameButLanes s (s.dropHubCues e) := by
  unfold State.dropHubCues
  split
  · exact modChan_same s _ _
  · exact SameButLanes.refl s

/-- The rebuild of the table after a role change (R96, R97). -/
theorem rebuildLinks_same (w : Work) : SameButLanes w.st w.rebuildLinks.st := by
  unfold Work.rebuildLinks Work.report
  simp only [hand_st, on_st]
  exact ((((setLinks_same _ _).trans (foldl_same _ dropHubCues_same _ _)).trans
    (foldl_same _ renamePair_same _ _)).trans (setLinks_same _ _)).trans (joinWhere_same _ _)

end Sys2Proof.Laws
end

