-- ==== Sys2Proof/Laws/Batch.lean ====
section
/-! SUPPORT. What the Retirement Batch Engine's operations can do (chapter 7). -/

namespace Sys2Proof.Laws

open Sys2Proof Sys2Proof.Machine

/-- Changing one member changes the lookup of that slot only. -/
theorem modMember_memberOf (s : State) (i j : SlotId) (f : Member → Member) (hf : ∀ m, (f m).slot = m.slot) :
    (s.modMember i f).memberOf j = if j = i then (s.memberOf i).map f else s.memberOf j := by
  have key : ∀ l : List Member,
      (l.map fun m => if m.slot == i then f m else m).find? (·.slot == j) =
        if j = i then (l.find? (·.slot == i)).map f else l.find? (·.slot == j) := by
    intro l
    induction l with
    | nil => simp
    | cons m t ih =>
      have hs : (if (m.slot == i) = true then f m else m).slot = m.slot := by split <;> simp [hf]
      rw [List.map_cons, List.find?_cons, hs, ih, List.find?_cons, List.find?_cons]
      by_cases hj : j = i
      · subst hj
        cases h : m.slot == j <;> simp
      · rw [if_neg hj, if_neg hj]
        cases h : m.slot == j with
        | false => rfl
        | true =>
          have : m.slot ≠ i := fun e => hj ((beq_iff_eq.1 h).symm.trans e)
          simp [this]
  simp only [State.memberOf, State.modMember, modBatch_batch, key]

@[simp] theorem modMember_slot (s : State) (i j : SlotId) (f : Member → Member) :
    (s.modMember i f).slot j = s.slot j := rfl

@[simp] theorem modMember_recordOf (s : State) (i j : SlotId) (f : Member → Member) :
    (s.modMember i f).recordOf j = s.recordOf j := rfl

@[simp] theorem modMember_stateOf (s : State) (i j : SlotId) (f : Member → Member) :
    (s.modMember i f).stateOf j = s.stateOf j := rfl

@[simp] theorem modMember_links (s : State) (i : SlotId) (f : Member → Member) : (s.modMember i f).links = s.links := rfl

/-- Setting a member flag changes that flag and lanes (R103). -/
theorem setMemberFlag_recordOf (s : State) (i j : SlotId) :
    (s.setMemberFlag i).recordOf j =
      if j = i then { s.recordOf i with batchMember := true } else s.recordOf j := by
  unfold State.setMemberFlag
  rw [((openJoining_same _ i).1 j).1]
  simp

/-- Clearing a member flag changes that flag and lanes (R103). -/
theorem clearMemberFlag_recordOf (s : State) (i j : SlotId) :
    (s.clearMemberFlag i).recordOf j =
      if j = i then { s.recordOf i with batchMember := false } else s.recordOf j := by
  unfold State.clearMemberFlag
  dsimp only
  split
  · rw [((considerJoins_same _ i).1 j).1]; simp
  · simp

/-- An addition appends a fresh member and sets the slot's flag; a finished list goes (R118). -/
theorem batchAdd_spec (s : State) (i j : SlotId) (force : Bool) :
    (s.batchAdd i force).batch.state = .gathering ∧
      (s.batchAdd i force).batch.window = some s.settings.gatherWindow ∧
      (s.batchAdd i force).batch.members =
        (if s.batch.state = .idle ∨ s.batch.state = .done then [] else s.batch.members) ++
          [{ slot := i, force := force, started := false, returnState := none, outcome := none }] ∧
      (s.batchAdd i force).recordOf j =
        (if j = i then { s.recordOf i with batchMember := true } else s.recordOf j) := by
  have hb : (s.batchAdd i force).batch =
      { state := .gathering, window := some s.settings.gatherWindow
        members := (if (s.batch.state == .idle || s.batch.state == .done) = true then [] else s.batch.members) ++
          [{ slot := i, force := force, started := false, returnState := none, outcome := none }] } := by
    unfold State.batchAdd State.setMemberFlag State.openJoining
    simp
  refine ⟨by rw [hb], by rw [hb], ?_, ?_⟩
  · rw [hb]; simp
  · unfold State.batchAdd
    rw [setMemberFlag_recordOf]
    rfl

/-- An outcome is given once: a member without one takes it and loses its flag, any other slot nothing (R117, R126). -/
theorem giveOutcome_cases (s : State) (i : SlotId) (o : MemberOutcome) :
    (s.openMember i = true ∧
        s.giveOutcome i o = (s.modMember i fun m => { m with outcome := some o }).clearMemberFlag i) ∨
      (s.openMember i = false ∧ s.giveOutcome i o = s) := by
  unfold State.giveOutcome
  cases h : s.openMember i
  · exact .inr ⟨rfl, by simp⟩
  · exact .inl ⟨rfl, by simp⟩

/-- The batch end (R127): a batch that can end and whose every member has an outcome ends, in DONE_FAULT where one failed,
else in DONE with every slot considered; any other batch goes on. -/
theorem batchEnd_cases (w : Work) :
    (w.st.batch.state.canEnd = true ∧ (∀ m ∈ w.st.batch.members, m.outcome.isSome = true) ∧
        ∃ fault : Bool, fault = (w.st.batch.members.any fun m => m.outcome.any MemberOutcome.fails) ∧
          w.batchEnd.st =
            (w.st.modBatch fun b => { b with state := if fault then .doneFault else .done }).postShelf .batchEnd
              (.batchEnd fault) ∧
          w.batchEnd.todo = w.todo ++ (if fault then [] else [.considerAll])) ∨
      ((w.st.batch.state.canEnd = false ∨ ∃ m ∈ w.st.batch.members, m.outcome = none) ∧ w.batchEnd = w) := by
  unfold Work.batchEnd
  dsimp only
  split
  · rename_i h
    simp only [Bool.and_eq_true, List.all_eq_true] at h
    refine .inl ⟨h.1, h.2, _, rfl, ?_, ?_⟩
    · split <;> simp_all
    · split <;> simp_all
  · rename_i h
    refine .inr ⟨?_, rfl⟩
    cases hc : w.st.batch.state.canEnd
    · exact .inl rfl
    · right
      simp only [hc, Bool.true_and, List.all_eq_true, not_forall] at h
      obtain ⟨m, hm, ho⟩ := h
      exact ⟨m, hm, by simpa using ho⟩

/-- A move of a slot that is no open member, or to a state that gives no outcome, tells the batch nothing (R126). -/
theorem memberMoved_none (i : SlotId) (w : Work)
    (h : w.st.openMember i = false ∨ (w.st.stateOf i).outcome = none) : w.memberMoved i = w := by
  unfold Work.memberMoved
  rcases h with h | h
  · split
    · simp [h]
    · rfl
  · simp [h]

/-- While a link is ACTIVE no slot retires by itself (R132). -/
theorem considerSlot_active (s : State) (i : SlotId) (h : s.anyActive = true) : s.considerSlot i = s := by
  simp [State.considerSlot, State.autoRetires, h]

/-- A slot without auto-retire never retires by itself (R132). -/
theorem considerSlot_held (s : State) (i : SlotId) (h : (s.recordOf i).policy.autoRetire = false) :
    s.considerSlot i = s := by simp [State.considerSlot, State.autoRetires, h]

/-- A walk whose every step changes nothing changes nothing. -/
theorem foldl_still {σ α : Type} (f : σ → α → σ) (s : σ) (hf : ∀ a, f s a = s) : ∀ l : List α, l.foldl f s = s
  | [] => rfl
  | a :: t => by rw [List.foldl_cons, hf, foldl_still f s hf t]

theorem considerAll_active (s : State) (h : s.anyActive = true) : s.considerAll = s :=
  foldl_still _ s (fun i => considerSlot_active s i h) _

theorem considerAll_held (s : State) (h : ∀ i : SlotId, (s.recordOf i).policy.autoRetire = false) :
    s.considerAll = s := foldl_still _ s (fun i => considerSlot_held s i (h i)) _

end Sys2Proof.Laws
end

