-- ==== Sys2Proof/Laws/Power.lean ====
section
/-! SUPPORT. What the Power Admission Unit's operations can do (chapter 4). -/

namespace Sys2Proof.Laws

open Sys2Proof Sys2Proof.Machine

/-! ### Grants, stamps and the deficit -/

/-- The grant with a demand of 0 is the floor (R61). -/
theorem grantFor_zero (margin floor : Nat) : grantFor 0 margin floor = (floor, true) := rfl

/-- A grant is never below the floor (R61). -/
theorem floor_le_grantFor (demand margin floor : Nat) : floor ≤ (grantFor demand margin floor).1 := by
  unfold grantFor
  split
  · exact Nat.le_refl _
  · dsimp only
    split <;> dsimp only <;> omega

/-- Giving a stamp writes the counter's value into the slot's power part and advances the counter (R68). -/
theorem giveStamp_spec (s : State) (i j : SlotId) :
    (s.giveStamp i).recordOf j =
        (if j = i then
          { s.recordOf i with
            power := (s.recordOf i).power.map fun p => { p with joinStamp := some s.power.stampCounter } }
        else s.recordOf j) ∧
      (s.giveStamp i).power = { s.power with stampCounter := nextStamp s.power.stampCounter } ∧
      (s.giveStamp i).links = s.links ∧ (s.giveStamp i).attention = s.attention := by
  refine ⟨?_, rfl, rfl, rfl⟩
  simp [State.giveStamp]

/-- Reserving sets the power part's reserved field and adds the grant to S (R63). -/
theorem reserve_spec (s : State) (i j : SlotId) :
    (s.reserve i).recordOf j =
        (if j = i then
          { s.recordOf i with power := (s.recordOf i).power.map fun p => { p with reserved := true } }
        else s.recordOf j) ∧
      (s.reserve i).power = { s.power with sumOfGrants := s.power.sumOfGrants + s.grantOf i } ∧
      (s.reserve i).links = s.links ∧ (s.reserve i).attention = s.attention := by
  refine ⟨?_, rfl, rfl, rfl⟩
  simp [State.reserve]

/-- Clearing the deficit: the flag goes and BUDGET (CLEARED) is posted, or nothing changes (R64, R65). -/
theorem clearDeficit_cases (s : State) :
    (s.power.deficit = true ∧ s.power.sumOfGrants ≤ s.settings.budget ∧
        s.clearDeficit = (s.modPower fun p => { p with deficit := false }).postShelf .budget (.budget true)) ∨
      ((s.power.deficit = false ∨ s.settings.budget < s.power.sumOfGrants) ∧ s.clearDeficit = s) := by
  unfold State.clearDeficit
  split
  · rename_i h
    simp only [Bool.and_eq_true, decide_eq_true_eq] at h
    exact .inl ⟨h.1, h.2, rfl⟩
  · rename_i h
    refine .inr ⟨?_, rfl⟩
    cases hd : s.power.deficit
    · exact .inl rfl
    · right
      simp only [hd, Bool.true_and, decide_eq_true_eq] at h
      omega

/-- Setting the deficit: the flag comes and BUDGET (DEFICIT) is posted, or nothing changes (R65). -/
theorem setDeficit_cases (s : State) :
    (s.power.deficit = false ∧ s.settings.budget < s.power.sumOfGrants ∧
        s.setDeficit = (s.modPower fun p => { p with deficit := true }).postShelf .budget (.budget false)) ∨
      ((s.power.deficit = true ∨ s.power.sumOfGrants ≤ s.settings.budget) ∧ s.setDeficit = s) := by
  unfold State.setDeficit
  split
  · rename_i h
    simp only [Bool.and_eq_true, Bool.not_eq_true', decide_eq_true_eq] at h
    exact .inl ⟨h.1, h.2, rfl⟩
  · rename_i h
    refine .inr ⟨?_, rfl⟩
    cases hd : s.power.deficit
    · right
      simp only [hd, Bool.not_false, Bool.true_and, decide_eq_true_eq] at h
      omega
    · exact .inl rfl

/-! ### The permit arbiter -/

/-- The arbiter gives nothing under a freeze, while SUPPLY_LOW is asserted, with every permit held, or with no slot in
the queue whose priority is not 0 (R72). -/
theorem nextPermit_none (s : State)
    (h : s.power.freeze = true ∨ s.shelf.supplyAsserted = true ∨ s.settings.permitLimit ≤ s.power.holders.length ∨
      ∀ i ∈ s.power.permitQueue, (s.recordOf i).policy.priority = 0) : s.nextPermit = none := by
  unfold State.nextPermit
  rcases h with h | h | h | h
  · simp [h]
  · simp [h]
  · simp [Nat.not_lt.2 h]
  · split
    · rw [List.find?_eq_none]
      intro i hi
      simp [h i hi]
    · rfl

/-- Where no permit can be given the arbiter does nothing. -/
theorem arbitrate_none (n : Nat) (w : Work) (h : w.st.nextPermit = none) : arbitrate n w = w := by
  cases n with
  | zero => rfl
  | succ n => simp only [arbitrate, h]

theorem arbiter_none (w : Work) (h : w.st.nextPermit = none) : w.arbiter = w := arbitrate_none _ w h

/-- The slot the arbiter serves stands in the queue with a priority that is not 0, and a permit is free (R72). -/
theorem nextPermit_some (s : State) (i : SlotId) (h : s.nextPermit = some i) :
    i ∈ s.power.permitQueue ∧ (s.recordOf i).policy.priority ≠ 0 ∧
      s.power.holders.length < s.settings.permitLimit ∧ s.shelf.supplyAsserted = false ∧ s.power.freeze = false := by
  unfold State.nextPermit at h
  split at h
  · rename_i hc
    simp only [Bool.and_eq_true, decide_eq_true_eq, Bool.not_eq_true'] at hc
    exact ⟨List.mem_of_find?_eq_some h, by simpa using List.find?_some h, hc.1.1, hc.1.2, hc.2⟩
  · exact absurd h (by simp)

/-- Everything the arbiter can do is moves from QUEUED to CHARGING, and queue places of slots that are not QUEUED
dropped: what those keep, it keeps. -/
theorem arbitrate_keeps {P : State → Prop}
    (move : ∀ (s : State) (i : SlotId), s.stateOf i = .queued → s.nextPermit = some i → P s →
      P (s.enter i .charging none))
    (drop : ∀ (s : State) (i : SlotId), s.stateOf i ≠ .queued → P s →
      P (s.modPower fun p => { p with permitQueue := without i p.permitQueue })) :
    ∀ (n : Nat) (w : Work), P w.st → P (arbitrate n w).st
  | 0, _, h => h
  | n + 1, w, h => by
    unfold arbitrate
    split
    · exact h
    · rename_i i hi
      refine arbitrate_keeps move drop n _ ?_
      unfold Work.grantPermit
      split
      · rename_i hq; exact move _ i hq hi h
      · rename_i hq; exact drop _ i hq h

/-! ### The wait list -/

/-- Everything the test of the wait list's heads can do is reservations with moves from BUDGET_WAIT to QUEUED, and list
places of slots that are not in BUDGET_WAIT dropped: what those keep, it keeps. -/
theorem passHeads_keeps {P : State → Prop}
    (pass : ∀ (s : State) (i : SlotId), s.stateOf i = .budgetWait → s.headFits i = true → P s →
      P ((s.reserve i).enter i .queued none))
    (drop : ∀ (s : State) (i : SlotId), s.stateOf i ≠ .budgetWait → P s →
      P (s.modPower fun p => { p with waitList := without i p.waitList })) :
    ∀ (l : List SlotId) (w : Work), P w.st → P (passHeads l w).1.st
  | [], _, h => h
  | i :: rest, w, h => by
    unfold passHeads
    split
    · rename_i hf
      split
      · rename_i hs; exact passHeads_keeps pass drop rest _ (pass _ i hs hf h)
      · rename_i hs; exact passHeads_keeps pass drop rest _ (drop _ i hs h)
    · exact h

/-- With no slot waiting and no permit released there is nothing to test. -/
theorem testHead_empty (w : Work) (h : w.st.power.waitList = []) : w.testHead false = w := by
  simp [Work.testHead, h, passHeads]

/-- With no slot waiting for a grant or for a permit, a released permit reaches no one. -/
theorem testHead_none (b : Bool) (w : Work) (h : w.st.power.waitList = []) (hn : w.st.nextPermit = none) :
    w.testHead b = w := by
  cases b
  · exact testHead_empty w h
  · simp [Work.testHead, h, passHeads, arbiter_none w hn]

/-! ### Moves with the PAU's reaction -/

/-- A move that releases nothing and leaves no list from its head is the move alone. -/
theorem move_quiet (i : SlotId) (new : SlotState) (why : Option ReasonCode) (w : Work)
    (hr : new.releasesGrant = false) (hb : w.st.stateOf i ≠ .budgetWait) (hc : w.st.stateOf i ≠ .charging) :
    w.move i new why = w.enter i new why := by
  have hb' : (w.st.stateOf i == SlotState.budgetWait) = false := by simpa using hb
  have hc' : (w.st.stateOf i == SlotState.charging) = false := by simpa using hc
  simp [Work.move, Work.react, State.moveFacts, hr, hb', hc']

/-- Everything a move and the PAU's reaction to it can do: the move, a cleared deficit, and what the head test and the
arbiter can do. -/
theorem move_keeps {P : State → Prop} (i : SlotId) (new : SlotState) (why : Option ReasonCode) (w : Work)
    (enter : P (w.st.enter i new why)) (clear : ∀ s : State, P s → P s.clearDeficit)
    (pass : ∀ (s : State) (j : SlotId), s.stateOf j = .budgetWait → s.headFits j = true → P s →
      P ((s.reserve j).enter j .queued none))
    (dropW : ∀ (s : State) (j : SlotId), s.stateOf j ≠ .budgetWait → P s →
      P (s.modPower fun p => { p with waitList := without j p.waitList }))
    (grant : ∀ (s : State) (j : SlotId), s.stateOf j = .queued → s.nextPermit = some j → P s →
      P (s.enter j .charging none))
    (dropQ : ∀ (s : State) (j : SlotId), s.stateOf j ≠ .queued → P s →
      P (s.modPower fun p => { p with permitQueue := without j p.permitQueue })) :
    P (w.move i new why).st := by
  have arb : ∀ v : Work, P v.st → P v.arbiter.st := fun v hv => arbitrate_keeps grant dropQ _ v hv
  have test : ∀ (b : Bool) (v : Work), P v.st → P (v.testHead b).st := by
    intro b v hv
    unfold Work.testHead
    have hp := passHeads_keeps pass dropW v.st.power.waitList v hv
    dsimp only
    split
    · exact arb _ hp
    · exact hp
  unfold Work.move Work.react
  dsimp only
  have h1 : P (w.enter i new why).st := enter
  have h2 : P (if (w.st.moveFacts i new).released = true then (w.enter i new why).on State.clearDeficit
      else w.enter i new why).st := by
    split
    · exact clear _ h1
    · exact h1
  split
  · exact test _ _ h2
  · split
    · exact arb _ h2
    · exact h2

end Sys2Proof.Laws
end

