-- ==== Sys2Proof/Laws/Steps.lean ====
section
/-! SUPPORT. What the shared operations around every command can do: the hand-overs of a step, the taking of an expiry and
of a line event, and the path of a frame from its port to the block that owns the command. -/

namespace Sys2Proof.Laws

open Sys2Proof Sys2Proof.Machine Sys2Proof.Safety

/-! ### Hand-overs -/

/-- With nothing handed over a step is done. -/
theorem settle_done (n : Nat) (w : Work) (h : w.todo = []) : settle n w = w.st := by
  cases n with
  | zero => rfl
  | succ n => simp [settle, h]

/-- A property that the state has after the event and that every hand-over keeps holds at the end of the step. -/
theorem settle_keeps {P : State → Prop} (keeps : ∀ (h : Handover) (w : Work), P w.st → P (Work.take h w).st) :
    ∀ (n : Nat) (w : Work), P w.st → P (settle n w)
  | 0, _, hw => hw
  | n + 1, w, hw => by
    unfold settle
    split
    · exact hw
    · rename_i h rest _
      exact settle_keeps keeps n _ (keeps h { w with todo := rest } hw)

/-- An event that hands nothing over is the whole step. -/
theorem run_done (f : Work → Work) (s : State) (h : (f (Work.start s)).todo = []) :
    s.run f = (f (Work.start s)).st := settle_done _ _ h

/-- A property that an event and every hand-over keep holds at the end of the step. -/
theorem run_keeps {P : State → Prop} (keeps : ∀ (h : Handover) (w : Work), P w.st → P (Work.take h w).st)
    (f : Work → Work) (s : State) (hf : P (f (Work.start s)).st) : P (s.run f) := settle_keeps keeps _ _ hf

/-- An event that only changes the state. -/
@[simp] theorem run_on (f : State → State) (s : State) : s.run (fun w => w.on f) = f s := run_done _ s rfl

/-! ### Timers and lines -/

/-- The expiry of a timer can be taken exactly while it runs, with the time base and outside a restart. -/
theorem expires_iff (s : State) (timer : Option Nat) :
    s.expires timer = true ↔ timer.isSome = true ∧ Running s := by
  simp [State.expires, Running, and_assoc]

/-- An expiry that can be taken is taken. -/
theorem expiry_taken (s : State) (timer : Option Nat) (f : Work → Work) (ht : timer.isSome = true) (hs : Running s) :
    s.expiry timer f = s.run f := by
  simp [State.expiry, (expires_iff s timer).2 ⟨ht, hs⟩]

/-- An expiry that cannot be taken changes nothing. -/
theorem expiry_not_taken (s : State) (timer : Option Nat) (f : Work → Work)
    (h : ¬ (timer.isSome = true ∧ Running s)) : s.expiry timer f = s := by
  have : s.expires timer ≠ true := fun e => h ((expires_iff s timer).1 e)
  simp [State.expiry, this]

/-- The phase timer of a slot, as the expiry event of one state sees it. -/
theorem phaseIn_runs (s : State) (i : SlotId) (st : SlotState) (h : PhaseRuns i st s) :
    (s.phaseIn i st).isSome = true := by
  obtain ⟨h1, h2, h3⟩ := h
  simp [State.phaseIn, h1, h2, h3]

/-- A phase timer that runs in a state ends: the timer reads absent, and the state's event follows. -/
theorem phaseExpiry_taken (s : State) (i : SlotId) (st : SlotState) (f : Work → Work) (hs : Running s)
    (h : PhaseRuns i st s) :
    s.phaseExpiry i st f = s.run fun w => f (w.on (State.modRecord i fun r => { r with phaseTimer := none })) :=
  expiry_taken s _ _ (phaseIn_runs s i st h) hs

/-- Outside a restart a line event is taken. -/
theorem line_taken (f : Work → Work) (s : State) (h : s.shelf.inReset = false) : s.line f = s.run f := by
  simp [State.line, h]

/-- During a restart no line event is taken. -/
theorem line_held (f : Work → Work) (s : State) (h : s.shelf.inReset = true) : s.line f = s := by simp [State.line, h]

/-! ### Frames -/

/-- A port takes frames exactly outside a restart and outside its own reset. -/
theorem closed_iff (s : State) (l : Link) :
    s.closed l = false ↔ s.shelf.inReset = false ∧ (s.port l).inReset = false := by
  simp [State.closed]

/-- A port in reset, or a part in restart, takes nothing. -/
theorem accept_closed (code : Byte) (kind : CommandKind) (owner : Work → Handled) (f : Frame) (s : State)
    (h : s.closed f.link = true) : s.accept code kind owner f = s := by simp [State.accept, h]

/-- A transaction with fewer bytes than it declares is a short frame, whatever its code. -/
theorem accept_short (code : Byte) (kind : CommandKind) (owner : Work → Handled) (f : Frame) (s : State)
    (h : s.closed f.link = false) (hc : f.complete = false) :
    s.accept code kind owner f = s.shortFetch f.link f.clocked := by simp [State.accept, h, hc]

/-- A taken frame is handled, its hand-overs are taken, and the port responds. -/
theorem accept_taken (code : Byte) (kind : CommandKind) (owner : Work → Handled) (f : Frame) (s : State)
    (h : Taken f s) :
    s.accept code kind owner f =
      (settle settleBound ((Work.start s).handle kind owner f).work).respond code f
        ((Work.start s).handle kind owner f).reply := by
  obtain ⟨h1, h2, h3⟩ := h
  have hc : s.closed f.link = false := (closed_iff s f.link).2 ⟨h1, h2⟩
  simp only [State.accept, hc, h3]
  rfl

/-- The role step of a link that is not SILENT only starts an ACTIVE link's supervision again. -/
theorem roleStep_counted (s : State) (l : Link) (h : (s.port l).role ≠ .silent) :
    (Work.start s).roleStep l = Work.start (counted l s) := by
  unfold Work.roleStep counted supervised
  simp only [start_st]
  split
  · rename_i e; exact absurd e h
  · rename_i e; rw [if_pos e]; rfl
  · rename_i e; rw [if_neg (by rw [e]; decide)]

/-- The role step of a SILENT link makes it ACTIVE. -/
theorem roleStep_silent (s : State) (l : Link) (h : (s.port l).role = .silent) :
    (Work.start s).roleStep l = Work.start (State.becomeActive l .resumed s) := by
  simp only [Work.roleStep, start_st, h]
  rfl

/-- A frame the owner is handed at the ACTIVE link. -/
theorem handle_change (kind : CommandKind) (owner : Work → Handled) (f : Frame) (s : State) (h : MayChange f s) :
    (Work.start s).handle kind owner f = owner (Work.start (supervised f.link s)) := by
  obtain ⟨⟨_, hl⟩, hr, he⟩ := h
  have hk : (supervised f.link s).kindRefusal f.link kind = none := by
    cases kind <;> simp [State.kindRefusal, supervised, hr, he]
  unfold Work.handle
  rw [roleStep_counted s f.link (by rw [hr]; decide), counted, if_pos hr]
  rw [if_neg (by simpa [Config.paramMax] using hl)]
  simp only [start_st, hk]

/-- A read, a fetch or a role command reaches its owner from a link in any role but SILENT. -/
theorem handle_read (kind : CommandKind) (owner : Work → Handled) (f : Frame) (s : State) (h : Accepted f s)
    (hr : (s.port f.link).role ≠ .silent) (hk : kind ≠ .change ∧ kind ≠ .device) :
    (Work.start s).handle kind owner f = owner (Work.start (counted f.link s)) := by
  have hn : (counted f.link s).kindRefusal f.link kind = none := by
    cases kind <;> simp_all [State.kindRefusal]
  unfold Work.handle
  rw [roleStep_counted s f.link hr, if_neg (by simpa [Config.paramMax] using h.2)]
  simp only [start_st, hn]

/-- A long length is answered BAD_FIELD after the role step. -/
theorem handle_long (kind : CommandKind) (owner : Work → Handled) (f : Frame) (s : State)
    (hl : 12 < f.len.toNat) (hr : (s.port f.link).role ≠ .silent) :
    (Work.start s).handle kind owner f = (Work.start (counted f.link s)).refuse .badField := by
  unfold Work.handle
  rw [roleStep_counted s f.link hr, if_pos (by simpa [Config.paramMax] using hl)]

/-- A response formed replaces the one held, with the overrun indication where that was not fetched. -/
theorem respond_some (code : Byte) (f : Frame) (r : Reply) (s : State) :
    s.respond code f (some r) = answered code f r.status (r.data s) s := by
  show s.modPort f.link (Port.hold f.clocked r.status code (r.data s)) = _
  unfold answered
  congr 1
  funext p
  unfold Port.hold Port.fetched overruns
  cases p.held with
  | none => rfl
  | some r =>
    by_cases h : r.bytes.length ≤ f.clocked
    · simp [h]
    · simp [h]; omega

/-- No response formed: a fetched response goes, a partly clocked one stays. -/
theorem respond_none (code : Byte) (f : Frame) (s : State) :
    s.respond code f none =
      s.modPort f.link fun p => { p with held := p.held.filter fun r => decide (f.clocked < r.bytes.length) } := by
  show s.modPort f.link (Port.keepHeld f.clocked) = _
  congr 1
  funext p
  cases p with
  | mk role sup held inReset level stack holdoff =>
    cases held with
    | none => rfl
    | some r =>
      by_cases h : r.bytes.length ≤ f.clocked
      · simp [Port.keepHeld, Port.fetched, h, Option.filter, Nat.not_lt.2 h]
      · simp [Port.keepHeld, Port.fetched, h, Option.filter, Nat.lt_of_not_le h]

/-- A changing command at the ACTIVE link whose owner hands nothing over: its work, then its response. -/
theorem accept_change (code : Byte) (kind : CommandKind) (owner : Work → Handled) (f : Frame) (s : State)
    (r : Reply) (h : MayChange f s) (hr : (owner (Work.start (supervised f.link s))).reply = some r) :
    s.accept code kind owner f =
      answered code f r.status
        (r.data (settle settleBound (owner (Work.start (supervised f.link s))).work))
        (settle settleBound (owner (Work.start (supervised f.link s))).work) := by
  rw [accept_taken code kind owner f s h.1.1, handle_change kind owner f s h, hr, respond_some]

/-- A refusal at the owner changes nothing but the port. -/
theorem accept_refused (code : Byte) (kind : CommandKind) (owner : Work → Handled) (f : Frame) (s : State)
    (st : Status) (h : MayChange f s)
    (ho : owner (Work.start (supervised f.link s)) = (Work.start (supervised f.link s)).refuse st) :
    s.accept code kind owner f = Refused code f st s := by
  rw [accept_change code kind owner f s (Reply.refuse st) h (by rw [ho]; rfl), ho]
  rfl

end Sys2Proof.Laws
end

