-- ==== Sys2Proof/Laws/Flows.lean ====
section
/-! SUPPORT. What the Slot Sequencer's flows can do, one lemma for each: the cases with their conditions. -/

namespace Sys2Proof.Laws

open Sys2Proof Sys2Proof.Machine

section Flows

variable (i : SlotId) (w : Work)

/-! ### Hand-overs -/

@[simp] theorem take_fault : Work.take (.fault i) w = w.faultAsserted i := rfl
@[simp] theorem take_presenceEdge : Work.take (.presenceEdge i) w = w.presenceEdge i := rfl
@[simp] theorem take_drained : Work.take (.drained i) w = w.drained i := rfl
@[simp] theorem take_considerAll : Work.take .considerAll w = w.on State.considerAll := rfl

/-! ### Faults and storms -/

/-- A fault-class event is posted; where another slot's stands undelivered it makes a storm (R143). -/
theorem postFault_cases (c : SlotClass) (d : Detail) :
    (w.st.stormFor i = false ∧ w.postFault i c d = w.on (State.postSlot i c d)) ∨
      (w.st.stormFor i = true ∧ w.postFault i c d = (w.on (State.postSlot i c d)).storm i) := by
  unfold Work.postFault
  cases h : w.st.stormFor i
  · exact .inl ⟨rfl, by simp⟩
  · exact .inr ⟨rfl, by simp⟩

/-- A storm freezes the arbiter and is posted; under a freeze that stands it is posted as repeated (R143, R144). -/
theorem storm_cases :
    (w.st.power.freeze = true ∧
        w.storm i = w.on (State.modEvent (.shelf .faultStorm) (·.postedRepeated (.storm i)))) ∨
      (w.st.power.freeze = false ∧ w.storm i = w.setFreeze.on (State.postShelf .faultStorm (.storm i))) := by
  unfold Work.storm
  cases h : w.st.power.freeze
  · exact .inr ⟨rfl, by simp⟩
  · exact .inl ⟨rfl, by simp⟩

/-- FAULT asserted acts in CHARGING and STABILIZING, where it is an inrush fault, and in the running states, where it is a
run fault (R24, R47, R50, R134). -/
theorem faultAsserted_cases :
    ((w.st.stateOf i = .charging ∨ w.st.stateOf i = .stabilizing) ∧ w.faultAsserted i = w.inrushFault i) ∨
      ((w.st.stateOf i).runFaults = true ∧ w.faultAsserted i = w.runFault i) ∨
      (w.st.stateOf i ≠ .charging ∧ w.st.stateOf i ≠ .stabilizing ∧ (w.st.stateOf i).runFaults = false ∧
        w.faultAsserted i = w) := by
  unfold Work.faultAsserted
  cases h : w.st.stateOf i <;> simp [SlotState.runFaults, SlotState.conversing]

/-- PGOOD fell acts in STABILIZING, POWERING_DOWN and the running states (R24, R50, R57, R134). -/
theorem pgoodFell_cases :
    (w.st.stateOf i = .stabilizing ∧ w.pgoodFell i = w.inrushFault i) ∨
      (w.st.stateOf i = .poweringDown ∧ w.pgoodFell i = w.toVacantReady i) ∨
      ((w.st.stateOf i).runFaults = true ∧ w.pgoodFell i = w.runFault i) ∨
      (w.st.stateOf i ≠ .stabilizing ∧ w.st.stateOf i ≠ .poweringDown ∧ (w.st.stateOf i).runFaults = false ∧
        w.pgoodFell i = w) := by
  unfold Work.pgoodFell
  cases h : w.st.stateOf i <;> simp [SlotState.runFaults, SlotState.conversing]

/-! ### Admission -/

/-- The admission condition, met or not (R42). -/
theorem testAdmission_cases :
    (w.st.admissible i = true ∧ w.testAdmission i = w.requestGrant i) ∨
      (w.st.admissible i = false ∧ w.testAdmission i = w) := by
  unfold Work.testAdmission
  cases h : w.st.admissible i
  · exact .inr ⟨rfl, by simp⟩
  · exact .inl ⟨rfl, by simp⟩

/-- A grant request is reserved and queued, or waits (R67). -/
theorem requestGrant_cases :
    ((w.st.openRequest i).requestFits i = true ∧
        w.requestGrant i =
          (((w.on (State.openRequest i)).on (State.reserve i)).enter i .queued none).arbiter) ∨
      ((w.st.openRequest i).requestFits i = false ∧
        w.requestGrant i = (w.on (State.openRequest i)).enter i .budgetWait none) := by
  unfold Work.requestGrant
  dsimp only [on_st]
  by_cases h : (w.st.openRequest i).requestFits i = true
  · exact .inl ⟨h, if_pos h⟩
  · exact .inr ⟨by simpa using h, if_neg h⟩

/-! ### Retirement -/

/-- A retirement request acts in IN_SERVICE and POWERED (R112). -/
theorem retireRequest_other (cause : RequestCause) (h1 : w.st.stateOf i ≠ .inService)
    (h2 : w.st.stateOf i ≠ .powered) : w.retireRequest i cause = w := by
  unfold Work.retireRequest
  cases h : w.st.stateOf i <;> simp_all

/-- The pair of R124 is met or not. -/
theorem testIsolating_cases :
    (w.st.stateOf i = .isolating ∧ (w.st.recordOf i).phaseTimer = none ∧
        ((w.st.recordOf i).warningWritten || (w.st.recordOf i).channelLost) = true ∧
        w.testIsolating i = w.move i .poweringDown none) ∨
      (¬ (w.st.stateOf i = .isolating ∧ (w.st.recordOf i).phaseTimer = none ∧
        ((w.st.recordOf i).warningWritten || (w.st.recordOf i).channelLost) = true) ∧ w.testIsolating i = w) := by
  unfold Work.testIsolating
  dsimp only
  split
  · rename_i h; exact .inl ⟨h.1, h.2.1, h.2.2, rfl⟩
  · rename_i h; exact .inr ⟨h, rfl⟩

/-- A drained report is taken in DRAINING while the batch is RUNNING (R121). -/
theorem drained_cases :
    (w.st.stateOf i = .draining ∧ w.st.batch.state = .running ∧ w.drained i = w.isolate i) ∨
      ((w.st.stateOf i ≠ .draining ∨ w.st.batch.state ≠ .running) ∧ w.drained i = w) := by
  unfold Work.drained
  split
  · rename_i h; exact .inl ⟨h.1, h.2, rfl⟩
  · rename_i h
    refine .inr ⟨?_, rfl⟩
    by_contra hn
    simp only [not_or, not_not] at hn
    exact h hn

/-- A member is started from IN_SERVICE, POWERED or RETIRE_PENDING, and from no other state (R120). -/
theorem startsFrom_some (r : SlotRecord) :
    r.startsFrom.isSome = true ↔ r.state = .retirePending ∨ r.state = .inService ∨ r.state = .powered := by
  unfold SlotRecord.startsFrom
  cases r.state <;> simp

/-! ### Presence -/

/-- A presence edge starts SETTLING in EMPTY of a slot with a role, and else nothing (R35, R5). -/
theorem presenceEdge_cases :
    (w.st.stateOf i = .empty ∧ w.st.roleOf i ≠ .unused ∧ w.presenceEdge i = w.move i .settling none) ∨
      ((w.st.stateOf i ≠ .empty ∨ w.st.roleOf i = .unused) ∧ w.presenceEdge i = w) := by
  unfold Work.presenceEdge
  split
  · rename_i h; exact .inl ⟨h.1, h.2, rfl⟩
  · rename_i h
    refine .inr ⟨?_, rfl⟩
    by_contra hn
    simp only [not_or, not_not] at hn
    exact h hn

/-- An extraction is not produced in EMPTY and SETTLING (R138). -/
theorem extract_none (h : (w.st.stateOf i).debounces = true) : w.extract i = w := by simp [Work.extract, h]

/-! ### Events -/

/-- A withdrawal clears the pending and repeated flags of a pending entry and keeps its detail (R148). -/
theorem withdraw_entry (s : State) (k k' : EventKey) :
    (s.withdraw k).attention.entry k' =
      if k' = k ∧ (s.attention.entry k).pending = true then
        { s.attention.entry k with pending := false, repeated := false }
      else s.attention.entry k' := by
  unfold State.withdraw
  by_cases hp : (s.attention.entry k).pending = true
  · rw [if_pos hp, modEvent_entry]
    by_cases hk : k' = k
    · simp [hk, hp, PendingEntry.taken]
    · simp [hk]
  · rw [if_neg hp, if_neg fun h => hp h.2]

end Flows

end Sys2Proof.Laws
end

