-- ==== Sys2Proof/Tests/Slice0.lean ====
section
/-! SUPPORT. Tests: well-formedness, transactions written out by hand, one or two small steps of each command against the
manual, and for every statement with hypotheses a state and operands that meet them. -/

namespace Sys2Proof.Tests

open Sys2Proof Sys2Proof.Machine Sys2Proof.Safety

set_option maxRecDepth 20000

/-! ## Small states -/

/-- The state a command leaves. -/
def after (c : Instr) (s : State) : State :=
  match exec c s with
  | .next t => t
  | .fault _ => s
  | .refused _ => s

/-- A frame on link A with its parameters and nothing after them. -/
def fr (slot : Nat) (ps : List Byte) : Frame := ⟨.a, byte slot, byte ps.length, ps⟩

/-- Link A ACTIVE, the rest as after power-on. -/
def active : State := State.reset.modPort .a fun p => { p with role := .active, supervision := some 1000 }

/-- The payload blade of section 3.11: 187.3 W, both hubs, inrush class 5, 45 s. -/
def blade : Identity :=
  { kind := .payload, demand := 1873, fabric := .both, inrushClass := 5, bootAllowance := 45
    serial := Vector.replicate 16 0x41, model := Vector.replicate 6 0x42 }

/-- A slot with that blade brought to a state, with its grant of 207 W. -/
def slotIn (i : SlotId) (st : SlotState) (s : State) : State :=
  (s.modRecord i fun r =>
    { r with
      policy := { r.policy with role := .payload }
      identity := some blade
      handleClosed := true
      power := some { grant := 207, reserved := st != .budgetWait, joinStamp := some 3, permitHeld := false } }).enter i
    st (if st = .stuck then some .stuck else some .denied)

/-- Slot 6 of section 3.11 in a state. -/
def six (st : SlotState) : State := slotIn 5 st active

/-- Slot 1 as hub A and slot 6 as its payload, both in service, with their entry in a link state. -/
def pair (ls : LinkState) (lu : LinkUp) : State :=
  let s := (slotIn 5 .inService (slotIn 0 .inService active)).modRecord 0 fun r =>
    { r with policy := { r.policy with role := .hub } }
  { s with links := s.tableFrom fun _ _ => none }.setLinks
    (List.map fun e => { e with linkState := ls, linkUp := lu, settle := if ls = LinkState.joining then some 5 else none })

/-- A batch of slot 6 alone, RUNNING with slot 6 started from IN_SERVICE. -/
def drainingPair (force : Bool) (ls : LinkState) : State :=
  let s := (pair ls .delivered).enter 5 .draining none
  { s.modRecord 5 fun r => { r with batchMember := true } with
    batch := { state := .running, window := none, members := [⟨5, force, true, some .inService, none⟩] } }

/-- What link A's response says: its status and data. -/
def answer (s : State) : Option (Status × List Byte) := s.portA.held.map fun r => (r.status, r.data)

/-- A slot's state after a command. -/
def stateAfter (c : Instr) (s : State) : SlotState := (after c s).stateOf 5

/-- The detail of a slot 6 event after a command, where it is pending. -/
def posted (k : EventKey) (s : State) : Option Detail :=
  if (s.attention.entry k).pending then (s.attention.entry k).detail else none

/-! ## Well-formedness, and the words of transactions (R158, section 12.2) -/

theorem test_illFormed_frame : (Instr.readSlot ⟨.a, 1, 3, [1, 2]⟩).wellFormed = false := by decide
theorem test_illFormed_shortFrame : (Instr.shortFrame .a 258).wellFormed = false := by decide
theorem test_illFormed_unknown : (Instr.unknownCommand 0x13 (fr 1 [])).wellFormed = false := by decide
theorem test_wellFormed_longest : (Instr.shortFrame .a 257).wellFormed = true := by decide

theorem test_decode_readSlot : decodeTransaction .a [0x01, 0x06, 0x00] = .readSlot ⟨.a, 6, 0, []⟩ := by decide
theorem test_decode_setShelf :
    decodeTransaction .b [0x11, 0x00, 0x03, 0x01, 0x02, 0x58] = .setShelf ⟨.b, 0, 3, [0x01, 0x02, 0x58]⟩ := by decide
theorem test_decode_admit : decodeTransaction .a [0x13, 0x10, 0x00, 0xFF] = .admitSlot ⟨.a, 16, 0, [0xFF]⟩ := by decide
theorem test_decode_takeover : decodeTransaction .b [0x20, 0x00, 0x00] = .takeover ⟨.b, 0, 0, []⟩ := by decide
theorem test_decode_restart : decodeTransaction .a [0x30, 0x00, 0x00] = .restart ⟨.a, 0, 0, []⟩ := by decide
theorem test_decode_unknown : decodeTransaction .a [0x23, 0x00, 0x00] = .unknownCommand 0x23 ⟨.a, 0, 0, []⟩ := by decide
theorem test_decode_short : decodeTransaction .a [0x15, 0x06, 0x01] = .shortFrame .a 3 := by decide
theorem test_decode_empty : decodeTransaction .a [] = .shortFrame .a 0 := by decide
theorem test_decodeTableWord : decodeTableWord 24 0x010600 = none := rfl

/-! ## Worked figures of the manual -/

/-- The table of R61. -/
theorem test_grants :
    grantFor 1873 10 10 = (207, false) ∧ grantFor 1000 0 10 = (100, false) ∧ grantFor 42 10 10 = (10, true) ∧
      grantFor 0 10 10 = (10, true) ∧ grantFor 65535 50 10 = (9831, false) := by decide

/-- R84: a block whose bytes do not add to 0 fails the check. -/
theorem test_blockChecks : blockChecks (Vector.replicate 32 0) = true ∧ blockChecks (Vector.replicate 32 8) = true ∧
    blockChecks ((Vector.replicate 32 0).set 0 1) = false := by decide

/-! ## The commands -/

theorem test_powerOn : (after .powerOn (six .inService)).stateOf 5 = .empty ∧
    (after .powerOn (six .inService)).portA.role = .standby := by decide

theorem test_resetLAsserted : (after .resetLAsserted (six .charging)).stateOf 5 = .charging ∧
    ((after .resetLAsserted (six .charging)).recordOf 5).phaseTimer = none := by decide

/-- R170: MAIN_EN held ON and PGOOD high is RECOVERING, PGOOD low FAULTED. -/
theorem test_resetLReleased :
    stateAfter .resetLReleased ((six .inService).modLines 5 (fun v => { v with presL := .low, pgood := .high })).halt =
        .recovering ∧
      stateAfter .resetLReleased ((six .inService).modLines 5 (fun v => { v with presL := .low })).halt = .faulted := by
  decide

theorem test_lrstAsserted : (after (.lrstAsserted .a) active).portA = Port.initial true ∧
    posted (.shelf .link) (after (.lrstAsserted .a) active) = some (.link .reset .a) := by decide

theorem test_lrstReleased : (after (.lrstReleased .a) (after (.lrstAsserted .a) active)).portA.inReset = false := by decide

theorem test_refclkLoss : (after .refclkLoss active).shelf.refclk = false := by decide
theorem test_refclkReturn : (after .refclkReturn (after .refclkLoss active)).shelf.refclk = true := by decide

theorem test_presenceEdge : stateAfter (.presenceEdge 5 .low) (six .empty) = .settling ∧
    ((after (.presenceEdge 5 .low) (six .empty)).slot 5).cond.debounce = some 100 := by decide

theorem test_presenceSettled :
    stateAfter (.presenceSettled 5) (after (.presenceEdge 5 .low) (six .empty)) = .identifying ∧
      ((after (.presenceSettled 5) (after (.presenceEdge 5 .low) (six .empty))).slot 5).chan.transfer =
        some { kind := .identityRead, attempt := 1 } := by decide

/-- Slot 6 in a state with its presence line high and the loss filter running. -/
def leaving (st : SlotState) : State := after (.presenceEdge 5 .high) (six st)

theorem test_presenceLost : stateAfter (.presenceLost 5) (leaving .charging) = .empty ∧
    posted (.slot 5 .surpriseExtraction) (after (.presenceLost 5) (leaving .charging)) =
      some (.leftState .charging) := by decide

theorem test_presenceLost_orderly : posted (.slot 5 .extracted) (after (.presenceLost 5) (leaving .vacantReady)) =
    some (.leftState .vacantReady) := by decide

theorem test_handleEdge : ((after (.handleEdge 5 .low) (six .charging)).slot 5).cond.handle = some 16 := by decide

/-- Slot 6 in a state with its handle line just gone to the open level. -/
def opening (st : SlotState) : State := after (.handleEdge 5 .low) (six st)

theorem test_handleSettleExpiry : stateAfter (.handleSettleExpiry 5) (opening .charging) = .vacantReady ∧
    stateAfter (.handleSettleExpiry 5) (opening .inService) = .retirePending := by decide

theorem test_pgoodRose : stateAfter (.pgoodRose 5) (six .charging) = .stabilizing ∧
    ((after (.pgoodRose 5) (six .charging)).recordOf 5).phaseTimer = some 20 := by decide

theorem test_pgoodFell : stateAfter (.pgoodFell 5) (six .powered) = .faulted ∧
    stateAfter (.pgoodFell 5) (six .poweringDown) = .vacantReady := by decide

theorem test_faultAsserted : stateAfter (.faultAsserted 5 .low) (six .charging) = .cooling ∧
    stateAfter (.faultAsserted 5 .high) (six .charging) = .charging := by decide

theorem test_notifyAsserted : ((after (.notifyAsserted 5 .low) (six .powered)).slot 5).chan.transfer =
    some { kind := .noticeRead, attempt := 1 } := by decide

theorem test_supplyLowEdge : (after (.supplyLowEdge .high) active).shelf.supplySettle = some 2 := by decide

theorem test_supplyLowSettleExpiry :
    stateAfter .supplyLowSettleExpiry (after (.supplyLowEdge .high) (six .charging)) = .queued ∧
      posted (.shelf .supply) (after .supplyLowSettleExpiry (after (.supplyLowEdge .high) (six .charging))) =
        some (.supply false) := by decide

theorem test_chargeTimeout : stateAfter (.chargeTimeout 5) (six .charging) = .cooling ∧
    stateAfter (.chargeTimeout 5) ((six .charging).modRecord 5 fun r => { r with retriesUsed := 1 }) = .faulted := by
  decide

/-- Section 3.11: after the cool-down slot 6 is charged again at ILIM 5, the lower of 8 and 5. -/
theorem test_coolDownExpiry : stateAfter (.coolDownExpiry 5) (six .cooling) = .charging ∧
    ((after (.coolDownExpiry 5) (six .cooling)).slot 5).out.ilim = 5 := by decide

/-- R51: the declared allowance of 45 s. -/
theorem test_stabilizeTimeExpiry :
    ((after (.stabilizeTimeExpiry 5) (after (.pgoodRose 5) (six .charging))).recordOf 5).phaseTimer = some 45000 ∧
      stateAfter (.stabilizeTimeExpiry 5) (six .stabilizing) = .cooling := by decide

theorem test_bootTimeout : ((after (.bootTimeout 5) (six .powered)).recordOf 5).reason = some .bootTimeout := by decide

theorem test_powerOffTimerExpiry : stateAfter (.powerOffTimerExpiry 5) (six .poweringDown) = .vacantReady ∧
    stateAfter (.powerOffTimerExpiry 5) ((six .poweringDown).modLines 5 fun v => { v with pgood := .high }) = .stuck := by
  decide

theorem test_drainDeadlineExpiry : stateAfter (.drainDeadlineExpiry 5) (drainingPair true .drainAsked) = .isolating ∧
    posted (.slot 5 .drainTimeout) (after (.drainDeadlineExpiry 5) (drainingPair false .drainAsked)) =
      some (.count 1) := by decide

theorem test_isolatingLaneSettleExpiry :
    stateAfter (.isolatingLaneSettleExpiry 5) (six .isolating) = .isolating ∧
      stateAfter (.isolatingLaneSettleExpiry 5)
        ((six .isolating).modRecord 5 fun r => { r with warningWritten := true }) = .poweringDown := by decide

theorem test_entryLaneSettleExpiry :
    ((after (.entryLaneSettleExpiry 5 .a) (pair .joining .none)).entry 5 0).map (fun e => (e.linkState, e.linkUp)) =
      some (.joined, .offered) := by decide

/-- A batch of slot 6 alone, GATHERING. -/
def gatheringPair : State := after (.retireAdd (fr 6 [0])) (pair .joined .delivered)

theorem test_gatherWindowExpiry : stateAfter .gatherWindowExpiry gatheringPair = .draining ∧
    ((after .gatherWindowExpiry gatheringPair).entry 5 0).map (·.linkState) = some .drainAsked := by decide

/-- Slot 6 IN_SERVICE with a notice read that has met two no-answers. -/
def third (k : TransferKind) : State :=
  (six .inService).modChan 5 fun c => { c with transfer := some { kind := k, attempt := 3 } }

theorem test_channelLostPauseExpiry :
    ((after (.channelLostPauseExpiry 5) (after (.noAnswer 5) (third .noticeRead))).slot 5).chan.transfer =
      some { kind := .noticeRead, attempt := 1 } := by decide

theorem test_holdoffExpiry :
    (after (.holdoffExpiry .a) (active.modPort .a fun p => { p with holdoff := some 9 })).portA.holdoff = none := by decide

theorem test_supervisionExpiry : (after (.supervisionExpiry .a) active).portA.role = .silent ∧
    (after (.supervisionExpiry .a) active).episode.state = .open := by decide

theorem test_ledBlinkToggle : ((after (.ledBlinkToggle 5) (six .stuck)).slot 5).out.lit = false ∧
    ((after (.ledBlinkToggle 5) (six .stuck)).slot 5).out.blink = some 125 := by decide

/-- The block of the blade as read. -/
def bladeBlock : Vector Byte 32 := Vector.ofFn fun i => blade.block.getD i.val 0

/-- Slot 6 reading its blade's identity, with a hub in slot 1; HELD. -/
def reading (n : Nat) : State :=
  ((((pair .open .none).enter 5 .identifying none).modRecord 5 fun r => { r with power := none }).modChan 5 fun c =>
    { c with transfer := some { kind := .identityRead, attempt := n }, identityDue := true })

theorem test_identityReadComplete : stateAfter (.identityReadComplete 5 bladeBlock) (reading 1) = .identified ∧
    ((after (.identityReadComplete 5 ((Vector.replicate 32 0).set 0 1)) (reading 3)).recordOf 5).reason =
      some .idUnreadable := by decide

/-- Slot 6 in a state with a notice read in flight. -/
def noticing (st : SlotState) : State :=
  (six st).modChan 5 fun c => { c with transfer := some { kind := .noticeRead, attempt := 1 } }

theorem test_noticeReadComplete : stateAfter (.noticeReadComplete 5 1 0) (noticing .powered) = .inService ∧
    stateAfter (.noticeReadComplete 5 2 0) (noticing .inService) = .retirePending := by decide

theorem test_cueWriteComplete :
    ((after (.cueWriteComplete 5) ((pair .joined .offered).modChan 5 fun c =>
      { c with transfer := some { kind := .cueWrite (.linkUp 0), attempt := 1 } })).entry 5 0).map (·.linkUp) =
      some .delivered := by decide

theorem test_noAnswer : ((after (.noAnswer 5) (third .noticeRead)).recordOf 5).channelLost = true ∧
    posted (.slot 5 .channel) (after (.noAnswer 5) (third .noticeRead)) = some (.channel false) := by decide

/-! ### Frames -/

/-- Link A ACTIVE with a response of 8 bytes held. -/
def holding : State := active.modPort .a fun p =>
  { p with held := some { status := .ok, code := 0x1D, overrun := false, data := [1, 2, 3] } }

theorem test_shortFrame : (after (.shortFrame .a 7) holding).portA.held.isSome = true ∧
    (after (.shortFrame .a 8) holding).portA.held = none := by decide

theorem test_unknownCommand :
    (after (.unknownCommand 0x23 (fr 0 [])) holding).portA.held =
      some { status := .unknownCommand, code := 0x23, overrun := true, data := [] } := by decide

theorem test_noneFrame : (after (.noneFrame (fr 0 [])) holding).portA.held = holding.portA.held := by decide

/-- Section 12.4: slot number, the policy defaults, the state and, at byte 26, the identity mark. -/
theorem test_readSlot : ((answer (after (.readSlot (fr 6 [])) (six .charging))).map fun r => r.2.take 18) =
    some [6, 1, 1, 4, 1, 0x2C, 8, 0, 200, 1, 0, 120, 0, 0, 0, 100, 4, 7] := by decide

theorem test_readLinks : answer (after (.readLinks (fr 6 [])) (pair .joining .none)) =
    some (.ok, [1, 6, 0, 1, 1, 0, 0, 0, 0, 5, 1, 0]) := by decide

theorem test_readShelf : answer (after (.readShelf (fr 0 [])) (six .charging)) =
    some (.ok, [0, 0, 0, 10, 0, 10, 0, 2, 0, 5, 0x13, 0x88, 1, 0xF4, 0, 50, 3, 0xE8, 0, 0, 0, 0, 0, 1, 0, 0, 0, 0]) := by
  decide

theorem test_readQueues : answer (after (.readQueues (fr 0 [])) (six .charging)) =
    some (.ok, [0, 0, 1, 6, 0, 0, 0, 200]) := by decide

theorem test_readBatch : answer (after (.readBatch (fr 0 [])) gatheringPair) =
    some (.ok, [1, 0, 0, 0, 50, 1, 6, 0, 0, 0xFF, 0]) := by decide

theorem test_readPending :
    ((answer (after (.readPending (fr 0 [])) (active.postShelf .restarted (.restarted .command)))).map fun r =>
      r.2.take 7) = some [1, 0, 13, 7, 2, 0, 0] := by decide

theorem test_readEpisode : answer (after (.readEpisode (fr 0 [])) active) =
    some (.ok, [0, 0, 0, 0, 0, 0, 0, 0, 0, 0, 0]) := by decide

/-- Section 1.6: priority 12 is clamped to 7. -/
theorem test_setPolicy : answer (after (.setPolicy (fr 9 [1, 0, 2, 2, 0, 0, 3, 0, 12])) active) =
      some (.okClamped, [1, 0, 2, 2, 0, 0, 3, 0, 7]) ∧
    answer (after (.setPolicy (fr 6 [1, 0, 2])) (six .charging)) = some (.wrongState, []) := by decide

theorem test_setShelf : answer (after (.setShelf (fr 0 [1, 0x23, 0x28])) active) =
      some (.okClamped, [1, 0x1F, 0x40]) ∧
    posted (.shelf .budget) (after (.setShelf (fr 0 [1, 0, 1])) (active.modPower fun p =>
      { p with sumOfGrants := 5 })) = some (.budget false) := by decide

theorem test_setLevel : answer (after (.setLevel (fr 0 [6, 9])) active) = some (.okClamped, [6, 7]) ∧
    answer (after (.setLevel (fr 0 [1, 3])) active) = some (.badField, []) := by decide

/-- Slot 6 IDENTIFIED, HELD, handle closed, with a budget of 600 W. -/
def asking : State :=
  { (six .identified).modRecord 5 fun r => { r with power := none } with
    settings := { ShelfSettings.default with budget := 600 } }

theorem test_admit : answer (after (.admitSlot (fr 6 [])) asking) = some (.ok, [7]) ∧
    (after (.admitSlot (fr 6 [])) asking).power.sumOfGrants = 207 := by decide

theorem test_denyAdmit : answer (after (.denyAdmit (fr 6 [])) asking) = some (.ok, [4]) ∧
    posted (.slot 5 .rejected) (after (.denyAdmit (fr 6 [])) asking) = some (.reason .denied) := by decide

theorem test_retireAdd : answer (after (.retireAdd (fr 6 [1])) (pair .joined .delivered)) = some (.ok, [1, 1]) ∧
    answer (after (.retireAdd (fr 6 [0])) gatheringPair) = some (.duplicate, []) := by decide

/-- Slot 6 asking to be retired from IN_SERVICE. -/
def asked : State := after (.noticeReadComplete 5 2 0) (noticing .inService)

theorem test_denyRetire : answer (after (.denyRetire (fr 6 [])) asked) = some (.ok, [11]) ∧
    ((after (.denyRetire (fr 6 [])) asked).slot 5).chan.transfer =
      some { kind := .cueWrite .retireDenied, attempt := 1 } := by decide

theorem test_batchHold : answer (after (.batchHold (fr 0 [])) gatheringPair) = some (.ok, [3]) ∧
    ((after (.batchHold (fr 0 [])) (drainingPair false .drainAsked)).recordOf 5).phasePaused = true := by decide

/-- The same batch HOLDING before any member started. -/
def heldPair : State := after (.batchHold (fr 0 [])) gatheringPair

theorem test_batchResume : answer (after (.batchResume (fr 0 [])) heldPair) = some (.ok, [2]) ∧
    stateAfter (.batchResume (fr 0 [])) heldPair = .draining := by decide

theorem test_batchAbandon : answer (after (.batchAbandon (fr 0 [])) gatheringPair) = some (.ok, [0]) ∧
    answer (after (.batchAbandon (fr 0 [])) (drainingPair false .drainAsked)) = some (.ok, [5]) := by decide

theorem test_clearBatchFault :
    answer (after (.clearBatchFault (fr 0 [])) (active.modBatch fun b => { b with state := .doneFault })) =
      some (.ok, [0]) := by decide

theorem test_clearSlot : stateAfter (.clearSlot (fr 6 [])) (six .faulted) = .settling ∧
    answer (after (.clearSlot (fr 6 [])) ((six .stuck).modLines 5 fun v => { v with pgood := .high })) =
      some (.stillPowered, []) := by decide

theorem test_thaw : (after (.thaw (fr 0 [])) (active.modPower fun p => { p with freeze := true })).power.freeze = false ∧
    answer (after (.thaw (fr 0 [])) active) = some (.wrongState, []) := by decide

/-- Section 12.3: slot 0, class 13, level 7, detail 2 0, not repeated, depth 1. -/
theorem test_nextAttention :
    answer (after (.nextAttention (fr 0 [])) (active.postShelf .restarted (.restarted .command))) =
      some (.ok, [0, 13, 7, 2, 0, 0, 1]) ∧
    answer (after (.nextAttention (fr 0 [])) active) = some (.nothingPending, []) := by decide

theorem test_serviceDone :
    answer (after (.serviceDone (fr 0 [])) (active.modPort .a fun p => { p with level := 7, stack := [0, 4] })) =
      some (.ok, [4, 1]) := by decide

theorem test_holdoff : answer (after (.holdoff (fr 0 [0x40, 0])) active) = some (.okClamped, [0x3F, 0xFF]) ∧
    answer (after (.holdoff (fr 0 [0x40])) active) = some (.badField, []) := by decide

theorem test_takeover : (after (.takeover (fr 0 [])) State.reset).portA.role = .active ∧
    posted (.shelf .link) (after (.takeover (fr 0 [])) State.reset) = some (.link .takeover .a) := by decide

theorem test_release : (after (.release (fr 0 [])) active).portA.role = .standby ∧
    answer (after (.release (fr 0 [])) State.reset) = some (.wrongState, []) := by decide

/-- Link A ACTIVE under an open episode. -/
def quarantined : State :=
  { active with
    episode := { state := .open, silentLink := some .b, start := some 1, endOfSilence := some 4, retired := [2] }
    elapsed := 9 }

theorem test_ackEpisode : answer (after (.ackEpisode (fr 0 [])) quarantined) =
      some (.ok, [2, 1, 0, 0, 0, 1, 0, 0, 0, 3, 1, 3]) ∧
    (after (.ackEpisode (fr 0 [])) quarantined).episode.state = .closed := by decide

theorem test_restart : stateAfter (.restart (fr 0 []))
      ((six .inService).modLines 5 fun v => { v with presL := .low, pgood := .high }) = .recovering ∧
    posted (.shelf .restarted) (after (.restart (fr 0 [])) active) = some (.restarted .command) := by decide

/-! ## Witnesses: states and operands that meet the hypotheses of the statements -/

/-- A frame on link A for slot 0, and one for slot 6. -/
def f0 : Frame := fr 0 []
def f6 : Frame := fr 6 []

/-- A frame with a declared length of 13, one more than a command frame may have. -/
def longFrame : Frame := ⟨.a, 0, 13, List.replicate 13 0⟩

/-- A pair in service with its accounts and filters in order, an event pending and a cue waiting: every law holds. -/
def serving : State :=
  let s := (pair .joined .delivered).mapSlots fun i x =>
    { x with cond := { x.cond with present := i == 0 || i == 5 } }
  let s := { s with power := { s.power with sumOfGrants := 414 }, settings := { s.settings with budget := 414 } }
  (((s.modPort .a fun p => { p with level := 4, stack := [0] }).modChan 5 fun c =>
    { c with transfer := some { kind := .noticeRead, attempt := 1 }, cueQueue := [.drain 0] }).postSlot 5 .notice
      (.notice 4 9))

/-- The same with a command waiting. -/
def servingWith (c : Instr) : State := { serving with pending := [c] }

/-- The same with the retirement of the payload waiting. -/
def stepping : State := servingWith (.retireAdd (fr 6 [1]))

/-- Slot 6 CHARGING with its permit on the list. -/
def charging : State := (six .charging).modPower fun p => { p with holders := [5] }

/-- Slot 6 reading its identity again after a restart; its third attempt. -/
def rereading : State :=
  (six .recovering).modSlot 5 fun x =>
    { x with
      record := { x.record with power := none, identity := none, laneEvidence := true }
      chan := { x.chan with transfer := some { kind := .identityRead, attempt := 3 } } }

/-- Slot 6 in a state with its engine writing a cue, the entry of its hub in a link state. -/
def writing (st : SlotState) (ls : LinkState) (lu : LinkUp) (c : Cue) (n : Nat) : State :=
  ((pair ls lu).enter 5 st none).modChan 5 fun ch =>
    { ch with transfer := some { kind := .cueWrite c, attempt := n }, lastServed := .notice }

/-- Slot 6 waiting alone for a grant of 207 W under a freeze. -/
def waiting : State :=
  { (six .budgetWait).modPower fun p => { p with waitList := [5], freeze := true } with
    settings := { ShelfSettings.default with budget := 206 } }

/-- Slot 6 waiting alone for a permit. -/
def queued : State := (six .queued).modPower fun p => { p with permitQueue := [5] }

/-- A fault-class event of slot 1 pending. -/
def stormy (s : State) : State := s.post (.slot 0 .powerFault) (.fault .run)

/-- The arbiter held by a freeze, the join-stamp counter at its largest value. -/
def frozen (s : State) : State := s.modPower fun p => { p with freeze := true, stampCounter := 4294967295 }

/-- Slot 6's handle closed and about to be taken as such. -/
def closing (s : State) : State :=
  s.modSlot 5 fun x =>
    { x with
      record := { x.record with handleClosed := false }
      lines := { x.lines with hdl := .high }, cond := { x.cond with handle := some 0 } }

/-- Slot 9 asking to retire, on its own where no link is ACTIVE. -/
def autoWaiting (s : State) : State :=
  (slotIn 8 .retirePending s).modRecord 8 fun r => { r with policy := { r.policy with autoRetire := true } }

/-- The same with no link ACTIVE. -/
def lonely (s : State) : State := (autoWaiting s).modPort .a fun p => { p with role := .standby, supervision := none }

/-- Slot 6 the only member of a RUNNING batch. -/
def inBatch (s : State) : State :=
  { s.modRecord 5 fun r => { r with batchMember := true } with
    batch := { state := .running, window := none, members := [⟨5, false, true, some .inService, none⟩] } }

/-- The draining pair with its payload being pulled out. -/
def lastMember : State := after (.presenceEdge 5 .high) (drainingPair false .drained)

/-- A batch whose one member, slot 6 in VACANT_READY, has its outcome. -/
def settled (b : BatchState) : State :=
  { six .vacantReady with
    batch := { state := b, window := some 0, members := [⟨5, false, true, some .inService, some .stuck⟩] } }

/-- Slot 9 waiting for 100 W, which is the budget, after slot 6 that is being pulled out; the arbiter is held. -/
def behind (st : SlotState) : State :=
  let s := (slotIn 8 .budgetWait (leaving st)).modRecord 8 fun r =>
    { r with power := some { grant := 100, reserved := false, joinStamp := some 4, permitHeld := false } }
  { s.modPower fun p => { p with freeze := true, sumOfGrants := ((leaving st).recordOf 5).reservedGrant } with
    settings := { ShelfSettings.default with budget := 100 } }

/-- Slot 9 waiting for the permit of slot 6, which is being pulled out. -/
def nextInLine : State := slotIn 8 .queued (leaving .charging)

/-- Slots 6 and 8 QUEUED and slots 3 and 9 in BUDGET_WAIT: two wait in each list (R69, R71). -/
def twoWait : State := slotIn 7 .queued (slotIn 2 .budgetWait (slotIn 8 .budgetWait (six .queued)))

/-- The draining pair with a notice read in flight on the payload. -/
def drainDone : State :=
  (drainingPair true .drainAsked).modChan 5 fun c => { c with transfer := some { kind := .noticeRead, attempt := 1 } }

/-- Slot 6 STUCK with its grant 1 W above the budget. -/
def stuckSix : State :=
  { (six .stuck).modPower fun p => { p with sumOfGrants := 207, deficit := true } with
    settings := { ShelfSettings.default with budget := 206 } }

/-- Slot 6 writing a cue with one pending for its hub, their entry in a link state. -/
def meeting (ls : LinkState) (c : Cue) : State :=
  (writing .draining ls .offered .statusQuery 1).modChan 5 fun ch => { ch with cueQueue := [c] }

/-- Slot 6 with its debounce running, its line at a level, and no power part. -/
def settlingAt (st : SlotState) (l : Level) : State :=
  (after (.presenceEdge 5 l) (six .settling)).modRecord 5 fun r => { r with state := st, power := none }

/-- The pair with a notice read in flight on the payload. -/
def noticed (ls : LinkState) : State :=
  (pair ls .delivered).modChan 5 fun c => { c with transfer := some { kind := .noticeRead, attempt := 1 } }

/-- Slots 1 and 2 as hubs, every other slot UNUSED. -/
def twoHubs : State :=
  (active.modRecord 0 fun r => { r with policy := { r.policy with role := .hub } }).modRecord 1 fun r =>
    { r with policy := { r.policy with role := .hub } }

/-- Slot 6 IDENTIFIED with its blade in place. -/
def roled : State := asking.modCond 5 fun c => { c with present := true }

/-- The blade that asks, with its handle open. -/
def handleOpen : State := asking.modRecord 5 fun r => { r with handleClosed := false }

/-- The pair with a notice of level 3 pending, link A at level 2. -/
def calling : State := serving.modPort .a fun p => { p with level := 2 }

/-- A transaction with parameters, the longest one, and bytes that are no short frame. -/
theorem witness_TransactionsRoundTrip :
    (Instr.setLevel (fr 0 [6, 9])).wellFormed = true ∧
      encodeTransaction (.setLevel (fr 0 [6, 9])) = some (.a, [0x12, 0, 2, 6, 9]) ∧
      ∀ n : Nat, decodeTransaction .a [0x01, 0x06, 0x00] ≠ .shortFrame .a n :=
  ⟨by decide, by decide, fun n h => by rw [test_decode_readSlot] at h; cases h⟩

theorem witness_StepTakesTheFrontCommand :
    (servingWith .powerOn).pending = .powerOn :: [] := by decide

/-- None due, one due, two due at once. -/
theorem witness_IdleStepsKeepTime :
    State.reset.pending = [] ∧ Running State.reset ∧ State.reset.due = [] ∧
    (active.modPort .a fun p => { p with supervision := some 0 }).due = [.supervisionExpiry .a] ∧
    2 ≤ ((active.modPort .a fun p => { p with supervision := some 0 }).modShelf fun v =>
      { v with supplySettle := some 0 }).due.length := by
  unfold Running
  decide

theorem witness_NothingExpiresWithoutTheTimeBase :
    ¬ Running (after .refclkLoss active) ∧ ¬ Running (after .resetLAsserted active) ∧
    (after .refclkLoss active).pending = [] ∧ isExpiry (.supervisionExpiry .a) = true := by
  unfold Running
  decide

/-- A block at the ends of its ranges. -/
theorem witness_IdentityBlocksRoundTrip :
    blade.demand < 65536 ∧ blade.serial.toList.all printable = true ∧ blade.model.toList.all printable = true ∧
    blockChecks bladeBlock = true ∧ blockFields bladeBlock = some blade ∧
    blockFields (Vector.ofFn fun i =>
      { blade with demand := 65535, inrushClass := 15, bootAllowance := 255 }.block.getD i.val 0) =
      some { blade with demand := 65535, inrushClass := 15, bootAllowance := 255 } := by decide

theorem witness_EveryStepKeepsOutputs :
    OutputsFollow stepping ∧
    (∃ t, step stepping = .next t) :=
  ⟨by unfold OutputsFollow; decide, _, rfl⟩

theorem witness_EveryStepKeepsLanes :
    LanesFollow stepping ∧
    (∃ t, step stepping = .next t) :=
  ⟨by unfold LanesFollow; decide, _, rfl⟩

theorem witness_EveryStepKeepsService :
    ServiceLaw stepping ∧
    (∃ t, step stepping = .next t) :=
  ⟨by unfold ServiceLaw PortServes; decide, _, rfl⟩

theorem witness_EveryStepKeepsRoles :
    RolesLaw stepping ∧
    (∃ t, step stepping = .next t) :=
  ⟨by unfold RolesLaw; intro l; cases l <;> decide, _, rfl⟩

theorem witness_EveryStepKeepsAttentionLines :
    AttentionLaw stepping ∧
    (∃ t, step stepping = .next t) :=
  ⟨by unfold AttentionLaw AttnFollows; decide, _, rfl⟩

theorem witness_EveryStepKeepsRecords :
    PresenceLaw stepping ∧
    RecordLaw stepping ∧
    MembersLaw stepping ∧
    MembersLaw gatheringPair ∧
    MembersLaw (drainingPair false .drainAsked) ∧
    (∃ t, step stepping = .next t) :=
  ⟨by unfold PresenceLaw; decide, by unfold RecordLaw; decide, by unfold MembersLaw MembersFollow; decide, by unfold MembersLaw MembersFollow; decide, by unfold MembersLaw MembersFollow; decide, _, rfl⟩

/-- A served pair whose grants are the budget; a slot waiting for a grant ahead of another, and two waiting for permits. -/
theorem witness_EveryStepKeepsAccounts :
    AccountsLaw stepping ∧
    OrdersLaw stepping ∧
    OrdersLaw twoWait ∧
    (∃ t, step stepping = .next t) :=
  ⟨by unfold AccountsLaw ListsFollow GrantsFollow SumFollows DeficitFollows; decide, by unfold OrdersLaw; decide, by unfold OrdersLaw; decide, _, rfl⟩

theorem witness_EveryStepKeepsCueQueues :
    CueLaw stepping ∧
    TableLaw stepping ∧
    CueHubsLaw stepping ∧
    (∃ t, step stepping = .next t) :=
  ⟨by unfold CueLaw; decide, by unfold TableLaw; decide, by unfold CueHubsLaw; decide, _, rfl⟩

theorem witness_EveryStepKeepsTheLinkTable :
    TableLaw stepping ∧
    CarryLaw stepping ∧
    CarryLaw (drainingPair false .drainAsked) ∧
    (∃ t, step stepping = .next t) :=
  ⟨by unfold TableLaw; decide, by unfold CarryLaw EndsCarry; decide, by unfold CarryLaw EndsCarry; decide, _, rfl⟩

/-- Entry to CHARGING, which leaves no prior state; and an LED pattern that stays as it is from one state to the next. -/
theorem witness_EnteringAStateFollowsTheTables :
    SlotState.charging ≠ SlotState.retirePending ∧
    (Slot.enter State.reset.settings .rejected (some .denied) (active.slot 5)).out.led =
      (Slot.enter State.reset.settings .faulted (some .denied) (active.slot 5)).out.led := by decide

/-- A demand of 0, one below the floor, one exactly at it, one above. -/
theorem witness_GrantsAreRoundedUpAndFloored :
    ((six .charging).recordOf 5).identity = some blade ∧ (1 : Nat) < blade.demand ∧
    (90 * (100 + State.reset.settings.margin) + 999) / 1000 = State.reset.settings.floor ∧
    (81 * (100 + State.reset.settings.margin) + 999) / 1000 < State.reset.settings.floor := by decide

/-- Outside the conversing states; into an empty queue; onto LINK_UP and UNDRAIN with the entry DRAIN_ASKED; LINK_DOWN. -/
theorem witness_OfferedCuesMeet :
    ((six .charging).stateOf 5).conversing = false ∧
    ((noticing .powered).stateOf 5).conversing = true ∧ ((noticing .powered).slot 5).chan.transfer.isSome = true ∧
    (∀ d ∈ ((noticing .powered).slot 5).chan.cueQueue, d.group ≠ Cue.statusQuery.group) ∧
    ((meeting .drainAsked (.linkUp 0)).entry 5 0).map (·.linkState) = some .drainAsked ∧
      pendingOf (.hub 0) ((meeting .drainAsked (.linkUp 0)).slot 5).chan.cueQueue = some (.linkUp 0) ∧
    pendingOf (.hub 0) ((meeting .drainAsked (.undrain 0)).slot 5).chan.cueQueue = some (.undrain 0) ∧
    ((meeting .drainAsked (.linkUp 0)).slot 5).chan.transfer.isSome = true ∧
      ((meeting .drainAsked (.linkUp 0)).stateOf 5).conversing = true := by decide

theorem witness_ResetLineHoldsThePart :
    active.shelf.inReset = false ∧ (after .resetLAsserted active).shelf.inReset = true := by decide

theorem witness_RestartsClassifyEverySlot :
    (after .resetLAsserted (six .inService)).shelf.inReset = true ∧ active.shelf.inReset = false ∧
    MayChange f0 active ∧ f0.slot = 0 := by
  unfold MayChange Accepted Taken
  decide

theorem witness_LinkResetClearsThePort :
    active.shelf.inReset = false ∧ (active.port .a).role = .active ∧ (active.port .b).role ≠ .active ∧
    (∀ i : SlotId, (active.recordOf i).policy.autoRetire = false) ∧
    ((after (.lrstAsserted .a) active).port f0.link).inReset = true ∧
    autoSlots .idle (autoWaiting active) = [8] ∧ (autoWaiting active).shelf.inReset = false ∧ ((autoWaiting active).port .a).role = .active := by decide

theorem witness_EdgesStartTheirFilters :
    active.shelf.inReset = false ∧ (six .settling).stateOf 5 = .settling ∧
    active.stateOf 8 = .empty ∧ active.roleOf 8 = .unused ∧
    ((six .charging).stateOf 5).conversing = false ∧
    ((noticing .powered).slot 5).chan.transfer.isSome = true ∧ ((noticing .powered).stateOf 5).conversing = true ∧
    ((six .powered).stateOf 5).conversing = true ∧ ((six .powered).slot 5).chan =
      { transfer := none, identityDue := false, noticePending := false, cueQueue := [], lastServed := .cue, pause := none } := by decide

theorem witness_PresenceEdgeStartsSettling :
    (six .empty).shelf.inReset = false ∧ (six .empty).stateOf 5 = .empty ∧ (six .empty).roleOf 5 ≠ .unused := by decide

/-- A state of each list. -/
theorem witness_PowerLinesLeaveOtherStates :
    (six .cooling).stateOf 5 ≠ .charging ∧ (six .stuck).stateOf 5 = .stuck ∧ (six .poweringDown).stateOf 5 = .poweringDown := by decide

/-- Settled low in SETTLING and, after polarity and role, in EMPTY; settled high in SETTLING; a slot of role UNUSED. -/
theorem witness_PresenceSettledDecides :
    Running (settlingAt .settling .low) ∧ ((settlingAt .settling .low).slot 5).cond.debounce.isSome = true ∧
      ((settlingAt .settling .low).slot 5).lines.presL = .low ∧ ((settlingAt .settling .low).slot 5).chan.transfer = none ∧
    (settlingAt .empty .low).stateOf 5 = .empty ∧ (settlingAt .empty .low).roleOf 5 ≠ .unused ∧
    ((settlingAt .settling .high).slot 5).lines.presL = .high ∧ ((settlingAt .settling .high).recordOf 5).power = none ∧
    ((after (.presenceEdge 8 .low) active).slot 8).cond.debounce.isSome = true ∧ active.roleOf 8 = .unused := by
  unfold Running
  decide

/-- From a state that held power, from VACANT_READY and from BUDGET_WAIT; alone, with a storm due, as the last open
member of a batch, with autonomous retirement to follow, with a head behind it that fits exactly, and with a slot behind it waiting
for a permit. -/
theorem witness_PresenceLostEndsInEmpty :
    (Running (leaving .charging) ∧ ((leaving .charging).slot 5).cond.loss.isSome = true ∧
      ((leaving .charging).slot 5).lines.presL = .high ∧ (leaving .charging).stateOf 5 = .charging) ∧
    (OutputsFollow (leaving .charging) ∧ NoOtherWaits 5 (leaving .charging) ∧ PairsOnce (leaving .charging) ∧
      Alone 5 (leaving .charging)) ∧
    ((leaving .vacantReady).stateOf 5 = .vacantReady ∧ ((leaving .vacantReady).slot 5).cond.loss.isSome = true) ∧
    (StormDue 5 (stormy (leaving .charging)) ∧ (leaving .charging).power.freeze = false ∧
      ListsFollow ((leaving .charging).modPower fun p => { p with holders := [5] })) ∧
    (lastMember.memberOf 5 = some ⟨5, false, true, some .inService, none⟩ ∧ LastOpen 5 lastMember ∧ NoAutoBatch 5 lastMember ∧
      ¬ OthersFailed 5 lastMember ∧ OutputsFollow lastMember ∧ (lastMember.slot 5).cond.loss.isSome = true) ∧
    ((lonely lastMember).anyActive = false ∧ (lonely lastMember).openMember 5 = true ∧ LastOpen 5 (lonely lastMember) ∧
      ¬ OthersFailed 5 (lonely lastMember) ∧ without 5 (autoSlots .done (lonely lastMember)) = [8] ∧
      OutputsFollow (lonely lastMember)) ∧
    (((behind .inService).recordOf 8).power.isSome = true ∧ (behind .inService).stateOf 8 = .budgetWait ∧
      without 5 (behind .inService).power.waitList = [8] ∧ ArbiterHeld (behind .inService) ∧ OutputsFollow (behind .inService) ∧
      ((behind .inService).recordOf 5).power.map (·.reserved) = some true ∧
      (behind .inService).power.sumOfGrants - ((behind .inService).recordOf 5).reservedGrant + 100 =
        (behind .inService).settings.budget) ∧
    ((behind .budgetWait).power.waitList = [5, 8] ∧ (behind .budgetWait).stateOf 5 = .budgetWait ∧
      (behind .budgetWait).power.deficit = false ∧ ((behind .budgetWait).slot 5).cond.loss.isSome = true) ∧
    ((nextInLine.recordOf 8).power.isSome = true ∧ nextInLine.stateOf 8 = .queued ∧ nextInLine.stateOf 5 = .charging ∧
      nextInLine.power.waitList = [] ∧ without 5 nextInLine.power.permitQueue = [8] ∧ nextInLine.power.freeze = false ∧
      nextInLine.shelf.supplyAsserted = false ∧ (without 5 nextInLine.power.holders).length < nextInLine.settings.permitLimit) ∧
    ((nextInLine.recordOf 8).policy.priority ≠ 0 ∧ (nextInLine.slot 8).lines.fltL = .high ∧ ¬ StormDue 5 nextInLine ∧
      (nextInLine.slot 5).cond.loss.isSome = true ∧ OutputsFollow nextInLine) := by
  unfold Running NoOtherWaits OutputsFollow PairsOnce Alone StormDue ListsFollow LastOpen NoAutoBatch OthersFailed ArbiterHeld
  refine ⟨?_, ?_, ?_, ?_, ?_, ?_, ?_, ?_, ?_, ?_⟩ <;> decide

/-- The meaning unchanged, newly closed, newly open; a handle closed in IDENTIFIED, VACANT_READY and RETIRE_PENDING. -/
theorem witness_HandleMeaningFollowsTheLine :
    (Running (opening .isolating) ∧ ((opening .isolating).slot 5).cond.handle.isSome = true) ∧
    (decide (((after (.handleEdge 5 .high) (six .charging)).slot 5).lines.hdl ≠ .low) =
      ((after (.handleEdge 5 .high) (six .charging)).recordOf 5).handleClosed) ∧
    ((active.slot 8).lines.hdl ≠ (active.recordOf 8).policy.openPolarity ∧ (active.recordOf 8).handleClosed = false ∧
      (active.slot 8).cond.handle.isSome = true ∧ active.stateOf 8 = .empty) ∧
    (((opening .isolating).slot 5).lines.hdl = ((opening .isolating).recordOf 5).policy.openPolarity ∧
      ((opening .isolating).recordOf 5).handleClosed = true ∧ (opening .isolating).stateOf 5 = .isolating) ∧
    (Running (closing asking) ∧ ((closing asking).slot 5).cond.handle.isSome = true ∧
      ((closing asking).slot 5).lines.hdl ≠ ((closing asking).recordOf 5).policy.openPolarity ∧
      ((closing asking).recordOf 5).handleClosed = false ∧ (closing asking).stateOf 5 = .identified ∧
      ((closing asking).recordOf 5).policy.admitMode = .held ∧ ((closing asking).recordOf 5).approved = false) ∧
    (((closing (frozen asking)).modRecord 5 fun r => { r with approved := true }).power.freeze = true ∧
      (closing (frozen asking)).power.stampCounter = 4294967295 ∧ ((closing (frozen asking)).grantNow 5).1 = 207) ∧
    ((closing (six .vacantReady)).stateOf 5 = .vacantReady ∧ ((closing (six .vacantReady)).recordOf 5).power = none ∧
      ((closing (six .vacantReady)).recordOf 5).idUnverified = false ∧
      ((closing (six .vacantReady)).recordOf 5).policy.admitMode = .held ∧
      ((closing (six .vacantReady)).recordOf 5).approved = false ∧ ((closing (six .vacantReady)).slot 5).cond.handle.isSome = true) ∧
    ((((closing (six .vacantReady)).modRecord 5 fun r => { r with idUnverified := true }).recordOf 5).idUnverified = true) ∧
    ((frozen (six .vacantReady)).power.freeze = true ∧ 5 ∉ (frozen (six .vacantReady)).power.waitList ∧
      (frozen (six .vacantReady)).power.stampCounter ≤ 4294967295) ∧
    ((closing asked).stateOf 5 = .retirePending ∧ ((closing asked).recordOf 5).batchMember = false ∧
      ((closing asked).recordOf 5).priorState = some .inService ∧ OutputsFollow (closing asked) ∧
      ((closing asked).attention.entry (.slot 5 .retireRequest)).pending = true) := by
  unfold Running OutputsFollow
  refine ⟨?_, ?_, ?_, ?_, ?_, ?_, ?_, ?_, ?_, ?_⟩ <;> decide

/-- With a link ACTIVE and without one; in each state that acts. -/
theorem witness_HandleOpenedRetiresOrAbandons :
    (Running (opening .inService) ∧ ((opening .inService).slot 5).cond.handle.isSome = true ∧
      ((opening .inService).slot 5).lines.hdl = ((opening .inService).recordOf 5).policy.openPolarity ∧
      ((opening .inService).recordOf 5).handleClosed = true) ∧
    ((opening .inService).stateOf 5 = ReturnState.inService.toState ∧ (opening .powered).stateOf 5 = ReturnState.powered.toState ∧
      ((opening .inService).slot 5).lines.fltL = .high ∧ ¬ AutoAdds 5 (opening .inService)) ∧
    (AutoAdds 5 ((lonely (opening .inService)).modRecord 5 fun r => { r with policy := { r.policy with autoRetire := true } })) ∧
    ((opening .budgetWait).stateOf 5 = .budgetWait ∧ NoOtherWaits 5 (opening .budgetWait) ∧
      (opening .queued).stateOf 5 = .queued ∧ NoOtherWaits 5 (opening .queued)) ∧
    ((opening .charging).stateOf 5 = .charging ∧ NoneWaiting (opening .charging)) ∧
    ((opening .cooling).stateOf 5 = .cooling ∧ (opening .stabilizing).stateOf 5 = .stabilizing) := by
  unfold Running NoneWaiting NoOtherWaits AutoAdds
  refine ⟨?_, ?_, ?_, ?_, ?_, ?_⟩ <;> decide

/-- The level unchanged, newly ASSERTED with a slot CHARGING, newly REMOVED. -/
theorem witness_SupplyLowBacksOffCharging :
    Running charging ∧ State.reset.shelf.supplySettle.isSome = true ∧ ListsFollow charging ∧ ListsFollow State.reset ∧
    decide (State.reset.shelf.supplyLow = .high) = State.reset.shelf.supplyAsserted ∧
    (after (.supplyLowEdge .high) charging).shelf.supplyLow = .high ∧
      (after (.supplyLowEdge .high) charging).shelf.supplyAsserted = false ∧
    (active.modShelf fun v => { v with supplyAsserted := true }).power.permitQueue = [] ∧ active.shelf.supplyLow = .low := by
  unfold Running ListsFollow
  decide

theorem witness_PowerGoodBringsTheSlotUp :
    (charging.slot 5).lines.fltL = .high ∧ charging.power.permitQueue = [] ∧ charging.shelf.inReset = false ∧ charging.stateOf 5 = .charging ∧
    Running (after (.pgoodRose 5) charging) ∧ PhaseRuns 5 .stabilizing (after (.pgoodRose 5) charging) ∧
      ((after (.pgoodRose 5) charging).slot 5).lines.pgood = .high := by
  unfold Running PhaseRuns
  decide

/-- Alone; with a storm due; the last open member of a batch. -/
theorem witness_RunFaultsStopTheSlot :
    serving.shelf.inReset = false ∧ serving.stateOf 5 = .inService ∧ OutputsFollow serving ∧ NoneWaiting serving ∧
      PairsOnce serving ∧ Alone 5 serving ∧
    StormDue 5 (stormy serving) ∧ NoneWaiting (stormy serving) ∧ OutputsFollow (stormy serving) ∧
    lastMember.stateOf 5 = .draining ∧ NoneWaiting lastMember ∧ PairsOnce lastMember ∧ OutputsFollow lastMember ∧
      lastMember.openMember 5 = true ∧ LastOpen 5 lastMember ∧ ¬ LastOpen 5 serving := by
  unfold NoneWaiting PairsOnce Alone OutputsFollow StormDue LastOpen
  decide

theorem witness_InrushFaultsRetryOrStop :
    NoneWaiting charging ∧ charging.shelf.inReset = false ∧ charging.stateOf 5 = .charging ∧ Running charging ∧ PhaseRuns 5 .charging charging ∧
    PhaseRuns 5 .stabilizing (six .stabilizing) ∧ ((six .stabilizing).slot 5).lines.pgood = .low ∧ NoneWaiting (six .stabilizing) ∧
    (charging.recordOf 5).retriesUsed < (charging.recordOf 5).policy.chargeRetries ∧ Alone 5 charging ∧
    StormDue 5 (stormy charging) ∧ ListsFollow (stormy charging) ∧ (stormy charging).power.freeze = false := by
  unfold NoneWaiting Running PhaseRuns Alone StormDue ListsFollow
  decide

theorem witness_CoolDownEndsInTheQueue :
    Running (six .cooling) ∧ PhaseRuns 5 .cooling (six .cooling) ∧ ((six .cooling).recordOf 5).power.isSome = true ∧
      (six .cooling).power.stampCounter ≤ 4294967295 ∧
    (six .cooling).power.freeze = false ∧ (six .cooling).shelf.supplyAsserted = false ∧
      (six .cooling).power.holders.length < (six .cooling).settings.permitLimit ∧ (six .cooling).power.permitQueue = [] ∧
    ((six .cooling).recordOf 5).policy.priority ≠ 0 ∧ ((six .cooling).slot 5).lines.fltL = .high ∧
      ((six .cooling).recordOf 5).identity = some blade ∧
    PhaseRuns 5 .cooling (frozen (six .cooling)) ∧ (frozen (six .cooling)).power.freeze = true ∧
      (frozen (six .cooling)).power.stampCounter = 4294967295 := by
  unfold Running PhaseRuns
  decide

/-- Alone; with a storm due; the last open member of a batch, with a link ACTIVE and without one. -/
theorem witness_BootAndPowerOffEnd :
    (Running (six .powered) ∧ PhaseRuns 5 .powered (six .powered) ∧ NoneWaiting (six .powered)) ∧
    (PhaseRuns 5 .poweringDown (six .poweringDown) ∧ ((six .poweringDown).slot 5).lines.pgood = .low) ∧
    (PhaseRuns 5 .poweringDown ((six .poweringDown).modLines 5 fun v => { v with pgood := .high })) ∧
    (Alone 5 (six .powered) ∧ Alone 5 (six .poweringDown)) ∧
    (StormDue 5 (stormy (six .powered)) ∧ StormDue 5 (stormy (six .poweringDown))) ∧
    ((inBatch (six .poweringDown)).openMember 5 = true ∧ LastOpen 5 (inBatch (six .poweringDown)) ∧
      NoAutoBatch 5 (inBatch (six .poweringDown)) ∧ ¬ OthersFailed 5 (inBatch (six .poweringDown)) ∧
      NoneWaiting (inBatch (six .poweringDown))) ∧
    ((lonely (inBatch (six .poweringDown))).anyActive = false ∧
      without 5 (autoSlots .done (lonely (inBatch (six .poweringDown)))) ≠ [] ∧
      NoneWaiting (lonely (inBatch (six .poweringDown))) ∧ LastOpen 5 (lonely (inBatch (six .poweringDown)))) := by
  unfold Running PhaseRuns NoneWaiting Alone StormDue LastOpen NoAutoBatch OthersFailed
  refine ⟨?_, ?_, ?_, ?_, ?_, ?_, ?_⟩ <;> decide

theorem witness_DrainDeadlineForcesOrReturns :
    Running (drainingPair true .drainAsked) ∧ PhaseRuns 5 .draining (drainingPair true .drainAsked) ∧ PairsOnce (drainingPair true .drainAsked) ∧
    ((drainingPair true .drainAsked).memberOf 5).map (·.force) = some true ∧ OutputsFollow (drainingPair true .drainAsked) ∧
    (drainingPair false .drainAsked).memberOf 5 = some ⟨5, false, true, some .inService, none⟩ ∧
      PhaseRuns 5 .draining (drainingPair false .drainAsked) ∧ OutputsFollow (drainingPair false .drainAsked) ∧
      LastOpen 5 (drainingPair false .drainAsked) := by
  unfold Running PhaseRuns PairsOnce OutputsFollow LastOpen
  decide

theorem witness_LaneSettleEnds :
    Running (six .isolating) ∧ PhaseRuns 5 .isolating (six .isolating) ∧ ((six .isolating).recordOf 5).warningWritten = false ∧
      ((six .isolating).recordOf 5).channelLost = false ∧
    PhaseRuns 5 .isolating ((six .isolating).modRecord 5 fun r => { r with warningWritten := true }) ∧
    ((pair .joining .none).settling 5 .a).isSome = true ∧ PairsOnce (pair .joining .none) ∧ Running (pair .joining .none) ∧
      ((pair .joining .none).stateOf 5).conversing = true := by
  unfold Running PhaseRuns PairsOnce
  decide

theorem witness_GatherWindowStartsTheMembers :
    (Running gatheringPair ∧ gatheringPair.batch.state = .gathering ∧ gatheringPair.batch.window.isSome = true) ∧
    ((gatheringPair.batch.members.map (·.slot)).Nodup ∧ ∀ i : SlotId, (gatheringPair.slot i).lines.fltL = .high) ∧
    (∃ m ∈ gatheringPair.batch.members, m.started = false ∧ m.outcome = none) ∧
    (∀ m ∈ gatheringPair.batch.members, m.started = false → m.outcome = none → Startable gatheringPair m) ∧
    (PairsOnce gatheringPair ∧ (gatheringPair.entry 5 0).map (fun e => (e.linkState, e.held)) = some (.joined, false) ∧
      (gatheringPair.stateOf 5).conversing = true ∧ (gatheringPair.slot 5).chan.cueQueue = []) ∧
    ((settled .gathering).batch.window.isSome = true ∧ NoAutoAtEnd (settled .gathering) ∧ Running (settled .gathering) ∧
      ∀ m ∈ (settled .gathering).batch.members, m.outcome.isSome = true) := by
  unfold Running Startable PairsOnce NoAutoAtEnd
  refine ⟨?_, ?_, ?_, ?_, ?_, ?_⟩ <;> decide

theorem witness_ShortTimersEnd :
    Running (after (.noAnswer 5) (third .noticeRead)) ∧ ((after (.noAnswer 5) (third .noticeRead)).slot 5).chan.pause.isSome = true ∧
      ((after (.noAnswer 5) (third .noticeRead)).slot 5).chan.transfer = none ∧
    ((after (.holdoff (fr 0 [0, 1])) active).port .a).holdoff.isSome = true ∧ Running (after (.holdoff (fr 0 [0, 1])) active) ∧
    ((six .stuck).slot 5).out.blink.isSome = true ∧ Running (six .stuck) := by
  unfold Running
  decide

/-- Without an episode, and with one open. -/
theorem witness_SilenceOpensAnEpisode :
    (Running active ∧ (active.port .a).role = .active ∧ (active.port .a).supervision.isSome = true ∧
      ∀ i : SlotId, (active.recordOf i).policy.autoRetire = false) ∧
    active.episode.state = .none ∧ quarantined.episode.state = .open ∧ (quarantined.port .a).supervision.isSome = true ∧
    autoSlots .idle (autoWaiting active) = [8] ∧ ((autoWaiting active).port Link.a.other).role ≠ .active ∧
      ((autoWaiting active).port .a).role = .active ∧ (autoWaiting active).batch.state = .idle := by
  unfold Running
  decide

/-- The attempts at their boundary; every reason; a blade that goes to IDENTIFIED. -/
theorem witness_IdentityReadsAreVetted :
    (((reading 2).slot 5).chan.transfer = some { kind := .identityRead, attempt := 2 } ∧ (reading 2).stateOf 5 = .identifying ∧
      ((reading 2).recordOf 5).power = none ∧ ((reading 2).recordOf 5).channelLost = false) ∧
    (blockChecks ((Vector.replicate 32 0).set 0 1) = false ∧ blockFields (Vector.replicate 32 0) = none ∧
      blockChecks (Vector.replicate 32 0) = true) ∧
    (kindSuits .hub .payload = false ∧ kindSuits ((reading 3).roleOf 5) blade.kind = true) ∧
    ((reading 3).fabricSuits 5 blade.fabric = true ∧ ((six .identifying).fabricSuits 5 blade.fabric) = false) ∧
    ((grantFor blade.demand 10 10).1 ≤ ((reading 3).recordOf 5).policy.slotCap ∧ 206 < (grantFor blade.demand 10 10).1) ∧
    (((reading 3).recordOf 5).policy.admitMode = .held ∧ ((reading 3).recordOf 5).approved = false) := by
  refine ⟨?_, ?_, ?_, ?_, ?_, ?_⟩ <;> decide

theorem witness_AdoptionReservesAGrant :
    (rereading.slot 5).chan.transfer = some { kind := .identityRead, attempt := 3 } ∧ rereading.stateOf 5 = .recovering ∧
      (rereading.slot 5).lines.fltL = .high ∧ (rereading.recordOf 5).channelLost = false ∧
    blockChecks bladeBlock = true ∧ blockFields bladeBlock = some blade ∧ blockFields (Vector.replicate 32 0) = none ∧
    (rereading.recordOf 5).idUnverified = false ∧ (rereading.recordOf 5).laneEvidence = true ∧ rereading.power.deficit = false ∧
    rereading.settings.budget < rereading.power.sumOfGrants + 207 ∧
    ((after (.handleEdge 5 .low) rereading).slot 5).chan.transfer.isSome = true := by decide

theorem witness_NoticesReachTheirBlocks :
    ((noticing .powered).inFlight 5 = some .noticeRead ∧ ((noticing .powered).recordOf 5).channelLost = false ∧
      ((noticing .powered).slot 5).chan.pause = none ∧ (noticing .powered).stateOf 5 = .powered ∧
      ((noticing .powered).slot 5).lines.fltL = .high ∧ ¬ AutoAdds 5 (noticing .powered)) ∧
    ((noticing .powered).stateOf 5 = ReturnState.powered.toState ∧ (noticing .inService).stateOf 5 = ReturnState.inService.toState) ∧
    (((noticed .drainAsked).entry 5 0).map (·.linkState) = some .drainAsked ∧ (noticed .drainAsked).batch.state ≠ .running ∧
      (noticed .drainAsked).inFlight 5 = some .noticeRead) ∧
    (((noticed .joined).entry 5 0).map (·.linkState) = some .joined ∧ (1 : Byte).toNat = slotNumber 0) ∧
    ((((noticed .open).enter 5 .powered none).links.map fun e => (e.linkState, (noticed .open).stateOf (e.otherEnd 5))) =
      [(.open, .inService)]) ∧
    (drainDone.inFlight 5 = some .noticeRead ∧ (drainDone.entry 5 0).map (·.linkState) = some .drainAsked ∧
      drainDone.batch.state = .running ∧ OutputsFollow drainDone ∧ PairsOnce drainDone ∧ drainDone.stateOf 5 = .draining ∧
      ∀ e ∈ drainDone.links, e.isPair 5 0 = true) := by
  unfold AutoAdds OutputsFollow PairsOnce
  refine ⟨?_, ?_, ?_, ?_, ?_, ?_⟩ <;> decide

theorem witness_TransfersEndOrAreTriedAgain :
    (((writing .inService .joined .offered (.linkUp 0) 1).slot 5).chan.transfer = some { kind := .cueWrite (.linkUp 0), attempt := 1 } ∧
      ((writing .inService .joined .offered (.linkUp 0) 1).entry 5 0).map (·.linkState) = some .joined ∧
      PairsOnce (writing .inService .joined .offered (.linkUp 0) 1)) ∧
    (((writing .isolating .open .none .powerOffWarning 1).recordOf 5).phaseTimer.isSome = true ∧
      (writing .isolating .open .none .powerOffWarning 1).stateOf 5 = .isolating) ∧
    (((after (.isolatingLaneSettleExpiry 5) (writing .isolating .open .none .powerOffWarning 1)).recordOf 5).phaseTimer = none) ∧
    (((writing .inService .joined .delivered .retireDenied 3).recordOf 5).channelLost = false ∧
      (writing .inService .joined .delivered .retireDenied 3).stateOf 5 ≠ .isolating ∧
      ((writing .inService .joined .delivered .retireDenied 3).slot 5).chan.cueQueue = []) ∧
    (((third .noticeRead).slot 5).chan.transfer = some { kind := .noticeRead, attempt := 3 }) ∧
    (((writing .inService .joined .offered (.linkUp 0) 3).entry 5 0).isSome = true) := by
  unfold PairsOnce
  refine ⟨?_, ?_, ?_, ?_, ?_, ?_⟩ <;> decide

theorem witness_FramesThatCarryNoCommand :
    Accepted f0 holding ∧ (holding.port f0.link).role = .active ∧ (⟨.a, 6, 2, [1]⟩ : Frame).complete = false ∧
    (Accepted f0 (after (.supervisionExpiry .a) active)) ∧ ((after (.supervisionExpiry .a) active).port .a).role = .silent ∧
    (holding.portA.held.map fun r => r.bytes.length) = some 8 := by
  unfold Accepted Taken
  decide

/-- Slot 0, slot 16, and a queue of four cues. -/
theorem witness_ReadsAnswerSnapshots :
    Accepted f0 State.reset ∧ f0.slot = 0 ∧ Accepted f0 (after (.supervisionExpiry .a) active) ∧
      ((after (.supervisionExpiry .a) active).port f0.link).role = .silent ∧
    Accepted (fr 16 []) active ∧ (fr 16 []).slot.toNat = slotNumber 15 ∧
    ((active.modChan 5 fun c => { c with cueQueue := [.drain 0, .drain 1, .retireDenied, .statusQuery] }).slot 5).chan.cueQueue.length ≤ 4 := by
  unfold Accepted Taken
  decide

theorem witness_RefusedFramesChangeNothing :
    Accepted f0 State.reset ∧ (State.reset.port .a).role = .standby ∧ Accepted f0 quarantined ∧ quarantined.episode.state = .open ∧
    (after (.supervisionExpiry .a) active).episode.state = .open ∧ Accepted f0 (after (.supervisionExpiry .a) active) ∧
      ((after (.supervisionExpiry .a) active).port .a).role = .silent ∧
    Taken longFrame active ∧ 12 < longFrame.len.toNat ∧
    MayChange (fr 17 []) active ∧ 16 < (fr 17 []).slot.toNat ∧ MayChange f0 active ∧ (fr 1 []).slot ≠ 0 := by
  unfold MayChange Accepted Taken
  decide

theorem witness_SetPolicyWritesFields :
    (MayChange (fr 6 [1]) active ∧ (fr 6 [1]).slot.toNat = slotNumber 5 ∧ policyFields [1] = none) ∧
    (policyFields [1, 0, 2] = some [(.role, 2)] ∧ roleIn [(.role, 2)] = some .hub ∧ (six .charging).stateOf 5 = .charging ∧
      (six .charging).roleOf 5 = .payload) ∧
    (2 ≤ (allSlots.filter fun j => decide (j ≠ 5) && twoHubs.roleOf j == .hub).length ∧ twoHubs.stateOf 5 = .empty) ∧
    (policyFields [3, 0, 255, 10, 0, 1] = some [(.priority, 255), (.openPolarity, 1)] ∧
      roleIn [(.priority, 255), (.openPolarity, 1)] = none) ∧
    ((queued.modPower fun p => { p with freeze := true }).stateOf 5 = .queued ∧ queued.power.permitQueue = [5]) ∧
    (MayChange (fr 6 [2, 0, 0]) handleOpen ∧ policyFields [2, 0, 0] = some [(.admitMode, 0)] ∧
      (handleOpen.recordOf 5).policy.admitMode = .held ∧ handleOpen.stateOf 5 = .identified ∧ (handleOpen.recordOf 5).handleClosed = false) := by
  unfold MayChange Accepted Taken
  refine ⟨?_, ?_, ?_, ?_, ?_, ?_⟩ <;> decide

/-- To SETTLING with a blade, to EMPTY without one; a third role for a slot of another. -/
theorem witness_RoleChangesClearTheSlot :
    MayChange (fr 6 [1, 0, 2]) roled ∧ policyFields [1, 0, 2] = some [(.role, Role.hub.code)] ∧ Role.hub ≠ roled.roleOf 5 ∧
      roled.stateOf 5 = .identified ∧
    (allSlots.filter fun j => decide (j ≠ 5) && roled.roleOf j == .hub).length < 2 ∧ (roled.recordOf 5).power = none ∧
    MayChange (fr 9 [1, 0, 1]) active ∧ active.roleOf 8 ≠ .payload ∧ (active.recordOf 8).power = none ∧ NoneWaiting active ∧
    PresenceLaw roled ∧ NoneWaiting roled ∧ OutputsFollow roled ∧ OutputsFollow active ∧ PresenceLaw active ∧ active.stateOf 5 = .empty ∧ (roled.slot 5).cond.present = true := by
  unfold MayChange Accepted Taken PresenceLaw NoneWaiting OutputsFollow
  decide

/-- A budget at the total of the grants, one below, one that admits the head of the wait list exactly; a raised permit limit. -/
theorem witness_SetShelfWritesSettings :
    (MayChange (fr 0 [1, 0, 207]) waiting ∧ shelfFields [1, 0, 207] = some [(.budget, 207)] ∧
      MayChange (fr 0 [4, 0, 9]) queued ∧ shelfFields [4, 0, 9] = some [(.permitLimit, 9)]) ∧
    (MayChange f0 active ∧ shelfFields [1] = none ∧ shelfFields [1, 1, 0x9E] = some [(.budget, 414)] ∧ serving.power.sumOfGrants = 414) ∧
    (serving.power.waitList = [] ∧ serving.power.permitQueue = [] ∧ MayChange f0 serving) ∧
    (waiting.settings.budget < min 8000 207 ∧ waiting.power.freeze = true ∧ waiting.power.waitList = [5] ∧ waiting.stateOf 5 = .budgetWait ∧
      (waiting.recordOf 5).power.map (·.grant) = some 207 ∧ waiting.power.sumOfGrants + 207 ≤ min 8000 207) ∧
    (queued.settings.permitLimit < max 1 (min 4 9) ∧ queued.power.freeze = false ∧ queued.shelf.supplyAsserted = false ∧
      queued.power.permitQueue = [5] ∧ queued.stateOf 5 = .queued ∧ (queued.recordOf 5).policy.priority ≠ 0 ∧
      (queued.slot 5).lines.fltL = .high ∧ (queued.recordOf 5).power.isSome = true) := by
  unfold MayChange Accepted Taken
  refine ⟨?_, ?_, ?_, ?_, ?_⟩ <;> decide

theorem witness_SetLevelWritesLevels :
    MayChange f0 active ∧ levelPairs [1, 3] = none ∧ levelPairs [6, 8] = some [(.slot .inService, 8)] := by
  unfold MayChange Accepted Taken
  decide

/-- A grant that fits exactly, one that does not; AUTO, and HELD with the handle open. -/
theorem witness_AdmissionIsDecidedByCommand :
    MayChange f6 asking ∧ f6.slot.toNat = slotNumber 5 ∧ asking.stateOf 5 = .identified ∧ (six .powered).stateOf 5 ≠ .identified ∧
    (asking.recordOf 5).policy.admitMode = .held ∧ (asking.recordOf 5).handleClosed = true ∧ (asking.grantNow 5).1 = 207 ∧
    ((frozen asking).modPower fun p => { p with sumOfGrants := 393 }).power.freeze = true ∧ 393 + 207 = asking.settings.budget ∧
      (frozen asking).power.stampCounter = 4294967295 ∧
    MayChange f6 handleOpen ∧ (handleOpen.recordOf 5).policy.admitMode = .held ∧ handleOpen.stateOf 5 = .identified ∧
    ((asking.modRecord 5 fun r => { r with policy := { r.policy with admitMode := .auto } }).recordOf 5).policy.admitMode = .auto := by
  unfold MayChange Accepted Taken
  decide

theorem witness_RetirementIsDecidedByCommand :
    MayChange f6 serving ∧ f6.slot.toNat = slotNumber 5 ∧ forceOf [] = none ∧ forceOf [0] = some false ∧ forceOf [1] = some true ∧
    (drainingPair true .drained).batch.state = .running ∧ (active.modBatch fun b => { b with state := .doneFault }).batch.state = .doneFault ∧
    (gatheringPair.batch.state = .gathering ∧ ∃ m ∈ gatheringPair.batch.members, m.slot = 5) ∧
    (∀ m ∈ gatheringPair.batch.members, m.slot ≠ 0) ∧
    serving.batch.state = .idle ∧ serving.stateOf 5 = .inService ∧ serving.stateOf 8 = .empty ∧
    MayChange f6 asked ∧ asked.stateOf 5 = .retirePending ∧ (asked.recordOf 5).batchMember = false ∧
      (asked.recordOf 5).priorState = some .inService ∧ (asked.slot 5).lines.fltL = .high := by
  unfold MayChange Accepted Taken
  decide

theorem witness_BatchCommandsSteerTheBatch :
    (MayChange f0 gatheringPair ∧ gatheringPair.batch.state = .gathering ∧ active.batch.state = .idle) ∧
    (heldPair.batch.state = .holding ∧ (heldPair.batch.members.map (·.slot)).Nodup ∧ ∀ i : SlotId, (heldPair.slot i).lines.fltL = .high) ∧
    (MayChange f0 heldPair ∧ ∀ i : SlotId, ((drainingPair true .drainAsked).slot i).lines.fltL = .high) ∧
    ((∃ m ∈ heldPair.batch.members, m.outcome = none) ∧
      ∀ m ∈ heldPair.batch.members, m.started = false → m.outcome = none → Startable heldPair m) ∧
    (MayChange f0 (drainingPair true .drainAsked) ∧ (drainingPair true .drainAsked).batch.state = .running ∧
      PairsOnce (drainingPair true .drainAsked) ∧
      ∀ m ∈ (drainingPair true .drainAsked).batch.members, m.started = true ∧ m.outcome = none ∧ m.returnState.isSome = true) ∧
    (∀ e ∈ (drainingPair true .drained).links, e.linkState ≠ .drainAsked) ∧
    ((active.modBatch fun b => { b with state := .doneFault }).batch.state = .doneFault) ∧
    (PairsOnce heldPair ∧ (heldPair.entry 5 0).map (fun e => (e.linkState, e.held)) = some (.joined, false)) ∧
    (MayChange f0 (settled .holding) ∧ (settled .holding).batch.state = .holding ∧
      (∀ m ∈ (settled .holding).batch.members, m.outcome.isSome = true) ∧ ∀ i : SlotId, (settled .holding).stateOf i ≠ .draining) := by
  unfold MayChange Accepted Taken PairsOnce Startable
  refine ⟨?_, ?_, ?_, ?_, ?_, ?_, ?_, ?_, ?_⟩ <;> decide

theorem witness_ClearsReturnSlotsAndPermits :
    (MayChange f6 (six .faulted) ∧ f6.slot.toNat = slotNumber 5 ∧ (six .faulted).stateOf 5 = .faulted ∧
      (((six .faulted).modCond 5 fun c => { c with present := true }).slot 5).cond.present = true) ∧
    (stuckSix.stateOf 5 = .stuck ∧ (stuckSix.slot 5).lines.pgood = .low ∧ NoneWaiting stuckSix ∧ MayChange f6 stuckSix) ∧
    (AccountsLaw stuckSix ∧ stuckSix.power.deficit = true) ∧
    ((six .rejected).stateOf 5 = .rejected ∧ (((six .stuck).modLines 5 fun v => { v with pgood := .high }).slot 5).lines.pgood = .high) ∧
    ((active.power.freeze = false) ∧ MayChange f0 queued ∧ (queued.modPower fun p => { p with freeze := true }).power.freeze = true) ∧
    (queued.shelf.supplyAsserted = false ∧ queued.power.holders.length < queued.settings.permitLimit ∧ queued.power.permitQueue = [5] ∧
      queued.stateOf 5 = .queued ∧ (queued.recordOf 5).power.isSome = true ∧ (queued.recordOf 5).policy.priority ≠ 0) := by
  unfold MayChange Accepted Taken NoneWaiting AccountsLaw ListsFollow GrantsFollow SumFollows DeficitFollows
  refine ⟨?_, ?_, ?_, ?_, ?_, ?_⟩ <;> decide

/-- An event one level above the link's; nothing deliverable; a full stack. -/
theorem witness_NextAttentionDeliversTheFirst :
    MayChange f0 calling ∧ deliverable calling.attention calling.portA (.slot 5 .notice) = true ∧ calling.portA.stack.length < 8 ∧
    (∀ k ∈ allKeys, deliverable calling.attention calling.portA k = true → k = .slot 5 .notice) ∧
    (∀ k ∈ allKeys, deliverable serving.attention serving.portA k = false) ∧
    8 ≤ (active.modPort .a fun p => { p with level := 8, stack := [0, 1, 2, 3, 4, 5, 6, 7] }).portA.stack.length := by
  unfold MayChange Accepted Taken
  decide

theorem witness_ServiceAndHoldoffAreSet :
    MayChange f0 serving ∧ (serving.port f0.link).stack = [] ++ [0] ∧ (active.port f0.link).stack = [] ∧
    (fr 0 [0]).params.length < 2 ∧ (fr 0 [0x40, 0]).params = 0x40 :: 0 :: [] ∧ MayChange (fr 0 [0x40, 0]) active := by
  unfold MayChange Accepted Taken
  decide

theorem witness_RolesChangeByCommand :
    Accepted f0 active ∧ (active.port .a).role = .active ∧ Accepted f0 State.reset ∧ (State.reset.port .a).role = .standby ∧
      (State.reset.port Link.a.other).role ≠ .active ∧
    Accepted f0 (after (.supervisionExpiry .a) active) ∧ ((after (.supervisionExpiry .a) active).port .a).role = .silent ∧
    ((State.reset.modPort .b fun p => { p with role := .active }).port Link.a.other).role = .active ∧
    (∀ i : SlotId, (active.recordOf i).policy.autoRetire = false) ∧
    Accepted f0 (autoWaiting active) ∧ autoSlots .idle (autoWaiting active) = [8] := by
  unfold Accepted Taken
  decide

theorem witness_EpisodesAreAcknowledged :
    Accepted f0 quarantined ∧ (quarantined.port .a).role = .active ∧ quarantined.episode.state = .open ∧ active.episode.state ≠ .open ∧
    (after (.supervisionExpiry .a) active).episode.state = .open ∧ ((after (.supervisionExpiry .a) active).port .a).role = .silent ∧
    Accepted f0 State.reset ∧ (State.reset.port .a).role = .standby := by
  unfold Accepted Taken
  decide

end Sys2Proof.Tests
end

section
/-! What a step can do to states, output lines and lane switches: moves of slots, changes of the Link Table with the
lanes driven from it, and changes that touch neither. A property these three keep, every event keeps. -/

namespace Sys2Proof.SlotLines

open Sys2Proof Sys2Proof.Machine Sys2Proof.Laws Sys2Proof.Safety

/-! ### Changes that leave states, lines and lanes -/

/-- A slot's state and its driven lines; the phase of a blinking LED is no part of either (R31). -/
def driveOf (x : Slot) : SlotState × OutputLines := (x.record.state, { x.out with lit := false, blink := none })

/-- What the lane switches read of an entry (R32). -/
def switchOf (e : LinkEntry) : SlotId × HubName × Bool := (e.payload, e.hub, e.linkState.switched)

/-- No state, no driven line and no lane switch changes. -/
def Quiet (s t : State) : Prop :=
  (∀ j : SlotId, driveOf (t.slot j) = driveOf (s.slot j)) ∧ t.links.map switchOf = s.links.map switchOf

theorem switchedOn_congr {l m : List LinkEntry} (h : l.map switchOf = m.map switchOf) (p : SlotId) (n : HubName) :
    switchedOn l p n = switchedOn m p n := by
  have read : ∀ k : List LinkEntry,
      switchedOn k p n = (k.map switchOf).any fun x => x.1 == p && x.2.1 == n && x.2.2 := by
    intro k; simp only [switchedOn, List.any_map]; rfl
  rw [read, read, h]

theorem Quiet.of_slots {s t : State} (h : t.slots = s.slots) (hl : t.links = s.links) : Quiet s t :=
  ⟨fun j => by rw [State.slot, h]; rfl, by rw [hl]⟩

theorem Quiet.modSlot (s : State) (i : SlotId) (f : Slot → Slot) (hf : ∀ x, driveOf (f x) = driveOf x) :
    Quiet s (s.modSlot i f) := by
  refine ⟨fun j => ?_, rfl⟩
  rw [modSlot_slot]
  split
  · rename_i h; rw [hf, h]
  · rfl

/-- A property of states that moves, changes of the Link Table, changes that touch no line, and the two ways of setting
the part up anew keep. -/
structure Kept (P : State → Prop) : Prop where
  enter : ∀ (s : State) (i : SlotId) (new : SlotState) (why : Option ReasonCode), P s → P (s.enter i new why)
  setLinks : ∀ (s : State) (f : List LinkEntry → List LinkEntry), P s → P (s.setLinks f)
  quiet : ∀ s t : State, Quiet s t → P s → P t
  powerOn : ∀ s : State, P s.powerOn
  scan : ∀ s : State, P (allSlots.foldl State.classify s.restartValues).restartLinks

namespace Kept

variable {P : State → Prop} (hP : Kept P) {s : State} {w : Work} (i : SlotId)

/-- A walk keeps what its steps keep. -/
theorem foldl {α β : Type} {g : β → State} (f : β → α → β) (hf : ∀ b a, P (g b) → P (g (f b a))) :
    ∀ (l : List α) (b : β), P (g b) → P (g (l.foldl f b))
  | [], _, h => h
  | a :: t, b, h => foldl f hf t (f b a) (hf b a h)

/-- A change of the state inside a step. -/
theorem on {f : State → State} (h : P (f w.st)) : P (w.on f).st := h

include hP

/-! ### Single updates -/

theorem workEnter (new : SlotState) (why : Option ReasonCode) (hw : P w.st) : P (w.enter i new why).st :=
  hP.enter _ i new why hw

theorem sameSlots (hs : P s) {t : State} (h : t.slots = s.slots) (hl : t.links = s.links) : P t :=
  hP.quiet s t (.of_slots h hl) hs

theorem modSlot (f : Slot → Slot) (hf : ∀ x, driveOf (f x) = driveOf x) (hs : P s) : P (s.modSlot i f) :=
  hP.quiet s _ (.modSlot s i f hf) hs

theorem mapSlots (f : SlotId → Slot → Slot) (hf : ∀ j x, driveOf (f j x) = driveOf x) (hs : P s) :
    P (s.mapSlots f) := hP.quiet s _ ⟨fun j => by rw [mapSlots_slot, hf], by rw [mapSlots_links]⟩ hs

theorem modRecord (f : SlotRecord → SlotRecord) (hs : P s) (hf : ∀ r, (f r).state = r.state := by exact fun _ => rfl) :
    P (s.modRecord i f) := hP.modSlot i _ (fun x => by simp only [driveOf, hf]) hs

theorem modLines (f : InputLines → InputLines) (hs : P s) : P (s.modLines i f) := hP.modSlot i _ (fun _ => rfl) hs

theorem modCond (f : Conditioning → Conditioning) (hs : P s) : P (s.modCond i f) := hP.modSlot i _ (fun _ => rfl) hs

theorem modChan (f : Channel → Channel) (hs : P s) : P (s.modChan i f) := hP.modSlot i _ (fun _ => rfl) hs

theorem modPower (f : PowerAccounts → PowerAccounts) (hs : P s) : P (s.modPower f) := hP.sameSlots hs rfl rfl

theorem modBatch (f : Batch → Batch) (hs : P s) : P (s.modBatch f) := hP.sameSlots hs rfl rfl

theorem modMember (f : Member → Member) (hs : P s) : P (s.modMember i f) := hP.modBatch _ hs

theorem modShelf (f : ShelfLines → ShelfLines) (hs : P s) : P (s.modShelf f) := hP.sameSlots hs rfl rfl

theorem modPort (l : Link) (f : Port → Port) (hs : P s) : P (s.modPort l f) :=
  hP.sameSlots hs (modPort_slots s l f) (modPort_links s l f)

theorem modEvent (k : EventKey) (f : PendingEntry → PendingEntry) (hs : P s) : P (s.modEvent k f) :=
  hP.sameSlots hs rfl rfl

theorem postSlot (c : SlotClass) (d : Detail) (hs : P s) : P (s.postSlot i c d) := hP.sameSlots hs rfl rfl

theorem postShelf (c : ShelfClass) (d : Detail) (hs : P s) : P (s.postShelf c d) := hP.sameSlots hs rfl rfl

theorem withdraw (k : EventKey) (hs : P s) : P (s.withdraw k) := by
  unfold State.withdraw
  split
  · exact hP.modEvent k _ hs
  · exact hs

/-! ### The Lane Manager -/

theorem modPair (p h : SlotId) (f : LinkEntry → LinkEntry) (hs : P s) : P (s.modPair p h f) := hP.setLinks s _ hs

theorem takeReport (r : CueReport) (hs : P s) : P (s.takeReport i r) := by
  cases r with
  | nothing => exact hs
  | linkUpCancelled h => exact hP.modPair _ _ _ hs
  | drained h a => exact hP.modPair _ _ _ hs

theorem offer (c : Cue) (hs : P s) : P (s.offer i c) := by
  unfold State.offer
  split
  · exact hP.modChan _ _ (hP.takeReport _ _ (hP.modChan _ _ hs))
  · exact hs

theorem announce (p h : SlotId) (hs : P s) : P (s.announce p h) := hP.modPair _ _ _ (hP.offer _ _ hs)

theorem considerJoins (hs : P s) : P (s.considerJoins i) := hP.setLinks s _ hs

theorem openJoining (hs : P s) : P (s.openJoining i) := hP.setLinks s _ hs

theorem drainPair (ph : SlotId × SlotId) (hs : P s) : P (s.drainPair ph) := by
  unfold State.drainPair
  split
  · exact hs
  · split
    · split
      · exact hP.modPair _ _ _ hs
      · exact hP.offer _ _ (hP.modPair _ _ _ hs)
    · exact hP.modPair _ _ _ hs
    all_goals exact hs

theorem drainAsk (hs : P s) : P (s.drainAsk i) := Kept.foldl (g := id) _ (fun _ ph h => hP.drainPair ph h) _ s hs

theorem drainDone (p : SlotId) (arg : Byte) (hw : P w.st) : P (w.drainDone p arg).st := by
  unfold Work.drainDone
  split
  · exact hw
  · split
    · exact hw
    · split
      · exact hP.modPair _ _ _ hw
      · exact hw

theorem openPair (tell : LinkEntry → Bool) (ph : SlotId × SlotId) (hs : P s) : P (State.openPair tell s ph) := by
  unfold State.openPair
  split
  · exact hs
  · split
    · dsimp only
      split
      · exact hP.offer _ _ (hP.modPair _ _ _ hs)
      · exact hP.modPair _ _ _ hs
    · exact hs

theorem openTouching (tell : LinkEntry → Bool) (hw : P w.st) : P (w.openTouching tell i).st :=
  Kept.foldl (g := id) _ (fun _ ph h => hP.openPair tell ph h) _ w.st hw

theorem undrainPair (ph : SlotId × SlotId) (hs : P s) : P (State.undrainPair i s ph) := by
  unfold State.undrainPair
  split
  · exact hs
  · split
    · dsimp only
      split
      · exact hP.offer _ _ (hP.modPair _ _ _ hs)
      · exact hP.announce _ _ (hP.modPair _ _ _ hs)
    · exact hs

theorem undrain (hs : P s) : P (s.undrain i) := Kept.foldl (g := id) _ (fun _ ph h => hP.undrainPair i ph h) _ s hs

theorem decidePair (ph : SlotId × SlotId) (hs : P s) : P (s.decidePair ph) := by
  unfold State.decidePair
  split
  · exact hs
  · split
    · exact hP.announce _ _ (hP.modPair _ _ _ hs)
    · exact hs

theorem decideHeld (hs : P s) : P (s.decideHeld i) := Kept.foldl (g := id) _ (fun _ ph h => hP.decidePair ph h) _ s hs

theorem renamePair (ph : SlotId × SlotId) (hs : P s) : P (s.renamePair ph) := by
  unfold State.renamePair
  split
  · split
    · exact hs
    · exact hP.modPair _ _ _ (hP.openPair _ _ hs)
  · exact hs

theorem dropHubCues (e : LinkEntry) (hs : P s) : P (s.dropHubCues e) := by
  unfold State.dropHubCues
  split
  · exact hP.modChan _ _ hs
  · exact hs

theorem rebuildLinks (hw : P w.st) : P w.rebuildLinks.st := by
  unfold Work.rebuildLinks Work.report
  simp only [hand_st, on_st]
  have dropped := Kept.foldl (g := id) State.dropHubCues (fun _ e h => hP.dropHubCues e h)
    (w.st.links.filter fun e => !w.st.keepsEntry e) _ (hP.setLinks w.st (List.filter w.st.keepsEntry) hw)
  have renamed := Kept.foldl (g := id) State.renamePair (fun _ ph h => hP.renamePair ph h)
    (((w.st.links.filter fun e => !w.st.keepsEntry e).foldl State.dropHubCues
      (w.st.setLinks (List.filter w.st.keepsEntry))).links.map fun e => (e.payload, e.hubSlot)) _ dropped
  exact hP.setLinks _ _ (hP.setLinks _ _ renamed)

/-! ### The Batch Engine -/

theorem setMemberFlag (hs : P s) : P (s.setMemberFlag i) := hP.openJoining i (hP.modRecord i _ hs)

theorem clearMemberFlag (hs : P s) : P (s.clearMemberFlag i) := by
  have cleared := hP.modRecord i (fun r => { r with batchMember := false }) hs
  unfold State.clearMemberFlag
  dsimp only
  split
  · exact hP.considerJoins i cleared
  · exact cleared

theorem batchAdd (force : Bool) (hs : P s) : P (s.batchAdd i force) := hP.setMemberFlag i (hP.modBatch _ hs)

theorem giveOutcome (o : MemberOutcome) (hs : P s) : P (s.giveOutcome i o) := by
  unfold State.giveOutcome
  split
  · exact hP.clearMemberFlag i (hP.modBatch _ hs)
  · exact hs

theorem batchEnd (hw : P w.st) : P w.batchEnd.st := by
  rcases batchEnd_cases w with ⟨_, _, fault, _, hst, _⟩ | ⟨_, he⟩
  · rw [hst]; exact hP.postShelf _ _ (hP.modBatch _ hw)
  · rw [he]; exact hw

theorem memberMoved (hw : P w.st) : P (w.memberMoved i).st := by
  unfold Work.memberMoved
  split
  · split
    · exact hP.batchEnd (hP.giveOutcome i _ hw)
    · exact hw
  · exact hw

theorem considerSlot (hs : P s) : P (s.considerSlot i) := by
  unfold State.considerSlot
  split
  · exact hP.sameSlots (hP.batchAdd i false hs) rfl rfl
  · exact hs

theorem considerAll (hs : P s) : P s.considerAll := Kept.foldl (g := id) _ (fun _ i h => hP.considerSlot i h) _ s hs

/-! ### The Power Admission Unit -/

theorem giveStamp (hs : P s) : P (s.giveStamp i) := hP.modPower _ (hP.modRecord i _ hs)

theorem reserve (hs : P s) : P (s.reserve i) := hP.modPower _ (hP.modRecord i _ hs)

theorem clearDeficit (hs : P s) : P s.clearDeficit := by
  unfold State.clearDeficit
  split
  · exact hP.postShelf _ _ (hP.modPower _ hs)
  · exact hs

theorem setDeficit (hs : P s) : P s.setDeficit := by
  unfold State.setDeficit
  split
  · exact hP.postShelf _ _ (hP.modPower _ hs)
  · exact hs

theorem arbiter (hw : P w.st) : P w.arbiter.st :=
  arbitrate_keeps (fun s j _ _ h => hP.enter s j _ _ h) (fun _ _ _ h => hP.modPower _ h) _ w hw

theorem testHead (b : Bool) (hw : P w.st) : P (w.testHead b).st := by
  have passed := passHeads_keeps (fun _ j _ _ h => hP.enter _ j .queued none (hP.reserve j h))
    (fun _ _ _ h => hP.modPower _ h) w.st.power.waitList w hw
  unfold Work.testHead
  dsimp only
  split
  · exact hP.arbiter passed
  · exact passed

theorem react (f : MoveFacts) (hw : P w.st) : P (w.react f).st := by
  have cleared : P (if f.released = true then w.on State.clearDeficit else w).st := by
    split
    · exact hP.clearDeficit hw
    · exact hw
  unfold Work.react
  dsimp only
  split
  · exact hP.testHead _ cleared
  · split
    · exact hP.arbiter cleared
    · exact cleared

theorem move (new : SlotState) (why : Option ReasonCode) (hw : P w.st) : P (w.move i new why).st :=
  hP.react _ (hP.enter _ i new why hw)

theorem backOff (hw : P w.st) : P (w.backOff i).st := by
  unfold Work.backOff
  split
  · exact hP.enter _ i _ _ hw
  · exact hw

theorem backOffAll (hw : P w.st) : P w.backOffAll.st :=
  Kept.foldl (g := Work.st) _ (fun _ i h => hP.backOff i h) _ w hw

theorem setFreeze (hw : P w.st) : P w.setFreeze.st := by
  unfold Work.setFreeze
  split
  · exact hw
  · exact hP.backOffAll (on (hP.modPower _ hw))

theorem storm (hw : P w.st) : P (w.storm i).st := by
  unfold Work.storm
  split
  · exact hP.modEvent _ _ hw
  · exact hP.postShelf _ _ (hP.setFreeze hw)

theorem postFault (c : SlotClass) (d : Detail) (hw : P w.st) : P (w.postFault i c d).st := by
  have posted : P (w.on (State.postSlot i c d)).st := hP.postSlot i c d hw
  unfold Work.postFault
  dsimp only
  split
  · exact hP.storm i posted
  · exact posted

theorem openRequest (hs : P s) : P (s.openRequest i) := hP.giveStamp i (hP.modRecord i _ hs)

theorem requestGrant (hw : P w.st) : P (w.requestGrant i).st := by
  have opened := hP.openRequest i hw
  unfold Work.requestGrant
  dsimp only
  split
  · exact hP.arbiter (hP.enter _ i _ _ (hP.reserve i opened))
  · exact hP.enter _ i _ _ opened

/-! ### The Sequencer -/

theorem testAdmission (hw : P w.st) : P (w.testAdmission i).st := by
  unfold Work.testAdmission
  split
  · exact hP.requestGrant i hw
  · exact hw

theorem toIdentified (hw : P w.st) : P (w.toIdentified i).st :=
  hP.testAdmission i (hP.postSlot i _ _ (hP.move i _ _ hw))

theorem toIdentifying (hw : P w.st) : P (w.toIdentifying i).st := hP.modChan i _ (hP.move i _ _ hw)

theorem toRejected (why : ReasonCode) (hw : P w.st) : P (w.toRejected i why).st :=
  hP.postSlot i _ _ (hP.move i _ _ hw)

theorem vet (b : Identity) (hw : P w.st) : P (w.vet i b).st := by
  have graded : P (w.on (State.computeGrant i)).st := on (hP.modRecord i _ hw)
  unfold Work.vet
  split
  · exact hP.toRejected i _ hw
  · split
    · exact hP.toRejected i _ hw
    · dsimp only
      split
      · exact hP.toRejected i _ graded
      · exact hP.toIdentified i graded

theorem toInService (hw : P w.st) : P (w.toInService i).st := hP.considerJoins i (hP.move i _ _ hw)

theorem retireRequest (cause : RequestCause) (hw : P w.st) : P (w.retireRequest i cause).st := by
  unfold Work.retireRequest
  dsimp only
  split
  · exact hw
  · exact hP.considerSlot i (hP.postSlot i _ _ (hP.openJoining i (hP.modRecord i _ (hP.move i _ _ hw))))

theorem returnToPrior (hw : P w.st) : P (w.returnToPrior i).st := by
  unfold Work.returnToPrior
  split
  · exact hP.move i _ _ hw
  · exact hP.toInService i hw
  · exact hP.toInService i hw

theorem denyRequest (hw : P w.st) : P (w.denyRequest i).st := hP.returnToPrior i (hP.offer i _ hw)

theorem toVacantReady (hw : P w.st) : P (w.toVacantReady i).st :=
  hP.memberMoved i (hP.postSlot i _ _ (hP.move i _ _ hw))

theorem toStuck (hw : P w.st) : P (w.toStuck i).st := hP.postFault i _ _ (hP.memberMoved i (hP.move i _ _ hw))

theorem powerOffEnds (hw : P w.st) : P (w.powerOffEnds i).st := by
  unfold Work.powerOffEnds
  split
  · exact hP.toVacantReady i hw
  · exact hP.toStuck i hw

theorem inrushFault (hw : P w.st) : P (w.inrushFault i).st := by
  unfold Work.inrushFault
  refine hP.memberMoved i (hP.react _ (hP.postFault i _ _ ?_))
  split
  · exact hP.workEnter i _ _ (on (hP.modRecord i _ hw))
  · exact hP.enter _ i _ _ hw

theorem runFault (hw : P w.st) : P (w.runFault i).st :=
  hP.postFault i _ _ (hP.memberMoved i (hP.move i _ _ (hP.openTouching i _ hw)))

theorem bootTimeout (hw : P w.st) : P (w.bootTimeout i).st :=
  hP.postFault i _ _ (hP.memberMoved i (hP.move i _ _ hw))

theorem faultAsserted (hw : P w.st) : P (w.faultAsserted i).st := by
  rcases faultAsserted_cases i w with ⟨_, he⟩ | ⟨_, he⟩ | ⟨_, _, _, he⟩ <;> rw [he]
  · exact hP.inrushFault i hw
  · exact hP.runFault i hw
  · exact hw

theorem pgoodFell (hw : P w.st) : P (w.pgoodFell i).st := by
  rcases pgoodFell_cases i w with ⟨_, he⟩ | ⟨_, he⟩ | ⟨_, he⟩ | ⟨_, _, _, he⟩ <;> rw [he]
  · exact hP.inrushFault i hw
  · exact hP.toVacantReady i hw
  · exact hP.runFault i hw
  · exact hw

theorem extract (hw : P w.st) : P (w.extract i).st := by
  have left := hP.memberMoved i (hP.move i .empty none (hP.openTouching i (fun e => e.payload != i && e.announced) hw))
  unfold Work.extract
  dsimp only
  split
  · exact hw
  · split
    · exact hP.postFault i _ _ (on (hP.modRecord i _ left))
    · exact hP.postSlot i _ _ left

theorem testIsolating (hw : P w.st) : P (w.testIsolating i).st := by
  rcases testIsolating_cases i w with ⟨_, _, _, he⟩ | ⟨_, he⟩ <;> rw [he]
  · exact hP.move i _ _ hw
  · exact hw

theorem isolate (hw : P w.st) : P (w.isolate i).st :=
  hP.testIsolating i (hP.offer i _ (hP.openTouching i _ (hP.move i _ _ hw)))

theorem drained (hw : P w.st) : P (w.drained i).st := by
  rcases drained_cases i w with ⟨_, _, he⟩ | ⟨_, he⟩ <;> rw [he]
  · exact hP.isolate i hw
  · exact hw

theorem startMember (hw : P w.st) : P (w.startMember i).st := by
  unfold Work.startMember
  split
  · exact hP.memberMoved i hw
  · rename_i back _
    have accepted : P (if w.st.stateOf i = .retirePending then w.on (State.offer i .retireAccepted) else w).st := by
      split
      · exact hP.offer i _ hw
      · exact hw
    have reported : ∀ v : Work, P v.st → P (if v.st.isDrained i = true then v.drained i else v).st := by
      intro v hv
      split
      · exact hP.drained i hv
      · exact hv
    exact reported _ (on (hP.drainAsk i (hP.move i _ _ (on (hP.modMember i _ accepted)))))

theorem sendBack (o : MemberOutcome) (hw : P w.st) : P (w.sendBack i o).st := by
  unfold Work.sendBack
  dsimp only
  refine hP.offer i _ (hP.giveOutcome i o ?_)
  split
  · exact hP.considerJoins i (hP.undrain i (hP.move i _ _ hw))
  · exact hP.move i _ _ hw

theorem deadline (hw : P w.st) : P (w.deadline i).st := by
  unfold Work.deadline
  split
  · exact hw
  · split
    · exact hP.isolate i hw
    · exact hP.batchEnd (hP.postSlot i _ _ (hP.sendBack i _ hw))

theorem adopt (out : ReadOutcome) (hs : P s) : P (s.adopt i out) :=
  hP.setDeficit (hP.modPower _ (hP.modRecord i _ hs))

theorem adoptionEnds (out : ReadOutcome) (hw : P w.st) : P (w.adoptionEnds i out).st := by
  have requested : ∀ v : Work, P v.st →
      P (if (v.st.recordOf i).handleClosed = true then v else v.retireRequest i .handle).st := by
    intro v hv
    split
    · exact hv
    · exact hP.retireRequest i _ hv
  have moved : ∀ new, P ((w.on (State.adopt i out)).move i new none).st :=
    fun new => hP.move i new none (on (hP.adopt i out hw))
  refine requested _ ?_
  split
  · exact on (hP.decideHeld i (hP.considerJoins i (hP.postSlot i _ _ (moved _))))
  · exact on (hP.offer i _ (moved _))

theorem readOutcome (out : ReadOutcome) (hw : P w.st) : P (w.readOutcome i out).st := by
  unfold Work.readOutcome
  split
  · split
    · exact hP.vet i _ (on (hP.modRecord i _ hw))
    · exact hP.toRejected i _ hw
    · exact hP.toRejected i _ hw
  · exact hP.adoptionEnds i out hw
  · exact hw

theorem handleClosed (hw : P w.st) : P (w.handleClosed i).st := by
  unfold Work.handleClosed
  split
  · exact hP.testAdmission i hw
  · split
    · exact hP.toIdentifying i hw
    · exact hP.toIdentified i hw
  · split
    · exact hw
    · exact hP.denyRequest i (hP.withdraw _ hw)
  · exact hw

theorem handleOpened (hw : P w.st) : P (w.handleOpened i).st := by
  unfold Work.handleOpened
  split
  · exact hP.toIdentified i hw
  · exact hP.toIdentified i hw
  · exact hP.toVacantReady i hw
  · exact hP.toVacantReady i hw
  · exact hP.move i _ _ hw
  · exact hP.retireRequest i _ hw
  · exact hP.retireRequest i _ hw
  · exact hw

theorem presenceEdge (hw : P w.st) : P (w.presenceEdge i).st := by
  rcases presenceEdge_cases i w with ⟨_, _, he⟩ | ⟨_, he⟩ <;> rw [he]
  · exact hP.move i _ _ hw
  · exact hw

theorem presenceSettled (present : Bool) (hw : P w.st) : P (w.presenceSettled i present).st := by
  unfold Work.presenceSettled
  split
  · split
    · exact hP.toIdentifying i hw
    · exact hP.move i _ _ hw
  · split
    · exact hP.toIdentifying i hw
    · exact hw
  · exact hw

/-- Every hand-over keeps what the elementary changes keep. -/
theorem take (h : Handover) (hw : P w.st) : P (Work.take h w).st := by
  cases h with
  | fault i => exact hP.faultAsserted i hw
  | presenceEdge i => exact hP.presenceEdge i hw
  | drained i => exact hP.drained i hw
  | considerAll => exact on (hP.considerAll hw)

theorem settle (n : Nat) (hw : P w.st) : P (settle n w) := settle_keeps (fun h _ hv => hP.take h hv) n w hw

theorem run (f : Work → Work) (hf : P (f (Work.start s)).st) : P (s.run f) :=
  run_keeps (fun h _ hv => hP.take h hv) f s hf

end Kept

end Sys2Proof.SlotLines
end

section
/-! Every command and every step of the time base keeps what moves, Link Table changes and quiet changes keep; with it
the laws of the output lines (R28, R30, R31) and of the lane enables (R32, R98). -/

namespace Sys2Proof.SlotLines

open Sys2Proof Sys2Proof.Machine Sys2Proof.Laws Sys2Proof.Safety

/-- Holding or resuming a deadline leaves the state (R128, R129). -/
theorem pause_state (held : Bool) (r : SlotRecord) : (r.pause held).state = r.state := by
  unfold SlotRecord.pause
  split <;> rfl

namespace Kept

variable {P : State → Prop} (hP : Kept P) {s : State} {w : Work} (i : SlotId)

include hP

/-! ### The slot channel -/

theorem restored (hs : P s) : P (s.restored i) := by
  unfold State.restored
  split
  · exact hP.postSlot i _ _ (hP.modRecord i _ hs)
  · exact hs

theorem endIdentityRead (out : ReadOutcome) (hw : P w.st) : P (w.endIdentityRead i out).st :=
  on (hP.modChan i _ (hP.readOutcome i out (on (hP.modChan i _ hw))))

theorem identityFails (hw : P w.st) : P (w.identityFails i).st := by
  unfold Work.identityFails
  split
  · exact on (hP.modChan i _ hw)
  · exact hP.endIdentityRead i _ hw

theorem identityCompletes (block : Vector Byte 32) (hw : P w.st) : P (w.identityCompletes i block).st := by
  unfold Work.identityCompletes
  split
  · split
    · exact hP.endIdentityRead i _ (on (hP.restored i hw))
    · exact hP.endIdentityRead i _ hw
  · exact hP.identityFails i hw

theorem ready (hw : P w.st) : P (w.ready i).st := by
  unfold Work.ready
  split
  · exact on (hP.considerJoins i (hP.postSlot i _ _ (hP.move i _ _ hw)))
  · exact hw

theorem notice (code arg : Byte) (hw : P w.st) : P (w.notice i code arg).st := by
  unfold Work.notice
  split
  · exact hw
  · exact hP.ready i hw
  · exact hP.retireRequest i _ hw
  · exact hP.drainDone i _ hw
  · exact on (hP.postSlot i _ _ (hP.modRecord i _ hw))

theorem endNotice (hs : P s) : P (s.endNotice i) := by
  unfold State.endNotice
  exact hP.modChan i _ hs

theorem cueWritten (c : Cue) (hw : P w.st) : P (w.cueWritten i c).st := by
  unfold Work.cueWritten
  split
  · exact on (hP.modPair _ _ _ hw)
  · split
    · exact hP.testIsolating i (on (hP.modRecord i _ hw))
    · exact hw
  · exact hw

theorem returnCue (c : Cue) (hw : P w.st) : P (w.returnCue i c).st := by
  have back : P (w.on fun s => (s.modChan i fun ch =>
      { ch with cueQueue := (Machine.returnCue c (w.st.slot i).chan.cueQueue).1 }).takeReport i
        (Machine.returnCue c (w.st.slot i).chan.cueQueue).2).st := on (hP.takeReport i _ (hP.modChan i _ hw))
  unfold Work.returnCue
  split
  · exact hw
  · dsimp only
    split
    · exact back
    · exact back

theorem channelLoss (served : ServedKind) (hw : P w.st) : P (w.channelLoss i served).st := by
  unfold Work.channelLoss
  refine hP.testIsolating i (on (hP.modChan i _ ?_))
  split
  · exact on (hP.modChan i _ hw)
  · exact on (hP.postSlot i _ _ (hP.modRecord i _ (on (hP.modChan i _ hw))))

theorem transferFails (k : TransferKind) (hw : P w.st) : P (w.transferFails i k).st := by
  cases k with
  | identityRead => exact hP.identityFails i hw
  | noticeRead => exact hP.channelLoss i _ (on (hP.modChan i _ hw))
  | cueWrite c => exact hP.channelLoss i _ (hP.returnCue i c hw)

/-! ### The ports -/

theorem shortFetch (l : Link) (n : Nat) (hs : P s) : P (s.shortFetch l n) := by
  unfold State.shortFetch
  split
  · exact hs
  · exact hP.modPort l _ hs

theorem becomeActive (l : Link) (cause : LinkCause) (hs : P s) : P (s.becomeActive l cause) := by
  have ended : P s.endSilence := by
    unfold State.endSilence
    split
    · exact hP.sameSlots hs rfl rfl
    · exact hs
  exact hP.postShelf _ _ (hP.modPort l _ ended)

theorem stopActive (l : Link) (role : LinkRole) (cause : LinkCause) (hw : P w.st) :
    P (w.stopActive l role cause).st := hP.postShelf _ _ (hP.modPort l _ hw)

theorem roleStep (l : Link) (hw : P w.st) : P (w.roleStep l).st := by
  unfold Work.roleStep
  split
  · exact on (hP.becomeActive l _ hw)
  · exact on (hP.modPort l _ hw)
  · exact hw

theorem fallSilent (l : Link) (hw : P w.st) : P (w.fallSilent l).st :=
  hP.stopActive l _ _ (on (hP.sameSlots hw rfl rfl))

theorem handle (kind : CommandKind) (owner : Work → Handled) (f : Frame)
    (ho : ∀ v : Work, P v.st → P (owner v).work.st) (hw : P w.st) : P (w.handle kind owner f).work.st := by
  have heard := hP.roleStep f.link hw
  unfold Work.handle
  dsimp only
  split
  · exact heard
  · split
    · exact heard
    · exact ho _ heard

theorem respond (code : Byte) (f : Frame) (reply : Option Reply) (hs : P s) : P (s.respond code f reply) := by
  cases reply with
  | none => exact hP.modPort f.link _ hs
  | some r => exact hP.modPort f.link _ hs

/-- A transaction keeps what its owner keeps. -/
theorem accept (code : Byte) (kind : CommandKind) (owner : Work → Handled) (f : Frame)
    (ho : ∀ v : Work, P v.st → P (owner v).work.st) (hs : P s) : P (s.accept code kind owner f) := by
  unfold State.accept
  split
  · exact hs
  · split
    · exact hP.shortFetch _ _ hs
    · exact hP.respond _ _ _ (hP.settle _ (hP.handle kind owner f ho hs))

/-! ### Expiries and lines -/

theorem expiry (timer : Option Nat) (f : Work → Work) (hf : P s → P (f (Work.start s)).st) (hs : P s) :
    P (s.expiry timer f) := by
  unfold State.expiry
  split
  · exact hP.run f (hf hs)
  · exact hs

theorem phaseExpiry (st : SlotState) (f : Work → Work) (hf : ∀ v : Work, P v.st → P (f v).st) (hs : P s) :
    P (s.phaseExpiry i st f) := hP.expiry _ _ (fun h => hf _ (on (hP.modRecord i _ h))) hs

theorem line (f : Work → Work) (hf : ∀ v : Work, P v.st → P (f v).st) (hs : P s) : P (s.line f) := by
  unfold State.line
  split
  · exact hs
  · exact hP.run f (hf _ hs)

theorem handleSettled (hw : P w.st) : P (w.handleSettled i).st := by
  unfold Work.handleSettled
  dsimp only
  split
  · exact hw
  · split
    · exact hP.handleClosed i (on (hP.modRecord i _ hw))
    · exact hP.handleOpened i (on (hP.modRecord i _ hw))

theorem supplySettled (hw : P w.st) : P w.supplySettled.st := by
  unfold Work.supplySettled
  dsimp only
  split
  · exact hw
  · split
    · exact on (hP.postShelf _ _ (hP.backOffAll (on (hP.modShelf _ hw))))
    · exact hP.arbiter (on (hP.postShelf _ _ (on (hP.modShelf _ hw))))

theorem coolDownEnds (hw : P w.st) : P (w.coolDownEnds i).st :=
  hP.arbiter (hP.workEnter i _ _ (on (hP.giveStamp i hw)))

theorem stabilizeEnds (hw : P w.st) : P (w.stabilizeEnds i).st := by
  unfold Work.stabilizeEnds
  split
  · exact hP.move i _ _ hw
  · exact hP.inrushFault i hw

theorem windowEnds (hw : P w.st) : P w.windowEnds.st :=
  hP.batchEnd (Kept.foldl (g := Work.st) _ (fun _ i h => hP.startMember i h) _ _ (on (hP.modBatch _ hw)))

theorem presEdge (level : Level) (hw : P w.st) : P (w.presEdge i level).st := by
  unfold Work.presEdge
  dsimp only
  split
  · exact hP.presenceEdge i (on (hP.modCond i _ hw))
  · exact on (hP.modCond i _ hw)

theorem pgoodRose (hw : P w.st) : P (w.pgoodRose i).st := by
  unfold Work.pgoodRose
  split
  · exact hP.move i _ _ hw
  · exact hw

theorem notified (hw : P w.st) : P (w.notified i).st := by
  unfold Work.notified
  split
  · exact on (hP.modChan i _ hw)
  · exact hw

/-! ### The owners of the commands -/

theorem placeForRole (hw : P w.st) : P (w.placeForRole i).st := by
  unfold Work.placeForRole
  split
  · exact hP.move i _ _ hw
  · exact on (hP.modCond i _ (hP.move i _ _ hw))

theorem changeRole (hw : P w.st) : P (w.changeRole i).st :=
  hP.rebuildLinks (hP.placeForRole i (on (hP.modChan i _ (hP.modRecord i _ hw))))

theorem admitModeChanged (hw : P w.st) : P (w.admitModeChanged i).st := by
  unfold Work.admitModeChanged
  split
  · exact hP.testAdmission i (on (hP.modRecord i _ hw))
  · exact hw

theorem priorityChanged (hw : P w.st) : P (w.priorityChanged i).st := by
  unfold Work.priorityChanged
  split
  · exact hP.arbiter (on (hP.modPower _ hw))
  · exact hw

theorem policyWritten (old : Policy) (hw : P w.st) : P (w.policyWritten i old).st := by
  have choose : ∀ (c : Prop) [Decidable c] (u v : Work), P u.st → P v.st → P (if c then u else v).st := by
    intro c _ u v hu hv
    split
    · exact hu
    · exact hv
  have role := choose ((w.st.recordOf i).policy.role = old.role) _ _ hw (hP.changeRole i hw)
  have mode := choose ((w.st.recordOf i).policy.admitMode = old.admitMode) _ _ role (hP.admitModeChanged i role)
  have priority := choose ((w.st.recordOf i).policy.priority = old.priority) _ _ mode (hP.priorityChanged i mode)
  exact choose _ _ _ priority (on (hP.modCond i _ priority))

theorem setPolicyOwner (f : Frame) (hw : P w.st) : P (setPolicyOwner f w).work.st := by
  unfold Machine.setPolicyOwner
  split
  · exact hw
  · split
    · exact hw
    · split
      · exact hw
      · exact hP.policyWritten _ _ (on (hP.modRecord _ _ hw))

theorem budgetWritten (old : Nat) (hw : P w.st) : P (w.budgetWritten old).st := by
  unfold Work.budgetWritten
  dsimp only
  split
  · exact on (hP.setDeficit hw)
  · split
    · exact hP.testHead _ (on (hP.clearDeficit hw))
    · split
      · exact hP.testHead _ hw
      · exact hw

theorem limitWritten (old : Nat) (hw : P w.st) : P (w.limitWritten old).st := by
  unfold Work.limitWritten
  split
  · exact hP.arbiter hw
  · exact hw

theorem setShelf (l : List (ShelfField × Nat)) (hw : P w.st) : P (w.setShelf l).work.st := by
  have written : P (w.on fun s => { s with settings := s.settings.writeAll l }).st := on (hP.sameSlots hw rfl rfl)
  have budget : P (if names .budget l = true then
      (w.on fun s => { s with settings := s.settings.writeAll l }).budgetWritten w.st.settings.budget
      else w.on fun s => { s with settings := s.settings.writeAll l }).st := by
    split
    · exact hP.budgetWritten _ written
    · exact written
  unfold Work.setShelf
  dsimp only [Work.answer]
  split
  · exact hP.limitWritten _ budget
  · exact budget

theorem setShelfOwner (f : Frame) (hw : P w.st) : P (setShelfOwner f w).work.st := by
  unfold Machine.setShelfOwner
  split
  · exact hw
  · exact hP.setShelf _ hw

theorem setLevelOwner (f : Frame) (hw : P w.st) : P (setLevelOwner f w).work.st := by
  unfold Machine.setLevelOwner
  split
  · exact hw
  · exact hP.sameSlots hw rfl rfl

theorem admitOwner (hw : P w.st) : P (admitOwner i w).work.st := by
  unfold Machine.admitOwner
  split
  · exact hw
  · split
    · exact hw
    · exact hP.testAdmission i (on (hP.modRecord i _ hw))

theorem denyAdmitOwner (hw : P w.st) : P (denyAdmitOwner i w).work.st := by
  unfold Machine.denyAdmitOwner
  split
  · exact hw
  · exact hP.toRejected i _ hw

theorem retireAddOwner (f : Frame) (hw : P w.st) : P (retireAddOwner f i w).work.st := by
  unfold Machine.retireAddOwner
  split
  · exact hw
  · split
    · exact hw
    · exact hP.batchAdd i _ hw

theorem denyRetireOwner (hw : P w.st) : P (denyRetireOwner i w).work.st := by
  unfold Machine.denyRetireOwner
  split
  · exact hP.denyRequest i hw
  · exact hw

theorem batchHoldOwner (hw : P w.st) : P (batchHoldOwner w).work.st := by
  unfold Machine.batchHoldOwner
  split
  · exact on (hP.modBatch _ hw)
  · exact on (hP.mapSlots _ (fun _ _ => by simp only [driveOf, pause_state]) (hP.modBatch _ hw))
  · exact hw

theorem resumeMember (hw : P w.st) : P (w.resumeMember i).st := by
  unfold Work.resumeMember
  split
  · exact hw
  · split
    · exact hP.startMember i hw
    · split
      · have resumed : P (w.on (State.modRecord i (SlotRecord.pause false))).st :=
          on (hP.modRecord i _ hw (pause_state false))
        dsimp only
        split
        · exact hP.drained i resumed
        · exact resumed
      · exact hw

theorem batchResumeOwner (hw : P w.st) : P (batchResumeOwner w).work.st := by
  unfold Machine.batchResumeOwner
  split
  · exact hP.batchEnd (Kept.foldl (g := Work.st) _ (fun _ i h => hP.resumeMember i h) _ _ (on (hP.modBatch _ hw)))
  · exact hw

theorem ungather (hs : P s) : P (s.ungather i) := by
  unfold State.ungather
  split
  · exact hP.clearMemberFlag i hs
  · exact hs

theorem abandonMember (hw : P w.st) : P (w.abandonMember i).st := by
  unfold Work.abandonMember
  split
  · exact hw
  · split
    · exact hP.sendBack i _ hw
    · split
      · exact on (hP.giveOutcome i _ hw)
      · exact hw

theorem batchAbandonOwner (hw : P w.st) : P (batchAbandonOwner w).work.st := by
  have abandoned := Kept.foldl (g := Work.st) _ (fun _ i h => hP.abandonMember i h)
    (w.st.batch.members.map (·.slot)) w hw
  unfold Machine.batchAbandonOwner
  dsimp only
  split
  · exact Kept.foldl (g := id) State.ungather (fun _ i h => hP.ungather i h) _ _ (hP.modBatch _ hw)
  · exact hP.batchEnd (on (hP.modBatch _ abandoned))
  · exact hP.batchEnd (on (hP.modBatch _ abandoned))
  · exact hw

theorem clearBatchFaultOwner (hw : P w.st) : P (clearBatchFaultOwner w).work.st := by
  unfold Machine.clearBatchFaultOwner
  split
  · exact hP.sameSlots hw rfl rfl
  · exact hw

theorem reidentify (hw : P w.st) : P (w.reidentify i).st :=
  on (hP.modCond i _ (hP.modRecord i _ (hP.move i _ _ hw)))

theorem clearSlotOwner (hw : P w.st) : P (clearSlotOwner i w).work.st := by
  unfold Machine.clearSlotOwner
  split
  · exact hP.reidentify i hw
  · exact hP.reidentify i hw
  · split
    · exact on (hP.modRecord i _ (hP.move i _ _ hw))
    · exact hw
  · exact hw

theorem thawOwner (hw : P w.st) : P (thawOwner w).work.st := by
  unfold Machine.thawOwner
  split
  · exact hP.arbiter (on (hP.modPower _ hw))
  · exact hw

theorem nextAttentionOwner (l : Link) (hw : P w.st) : P (nextAttentionOwner l w).work.st := by
  unfold Machine.nextAttentionOwner
  dsimp only
  split
  · exact hw
  · split
    · exact hw
    · rename_i k _
      refine on (hP.sameSlots (hP.modPort l (fun p => { p with
        stack := p.stack ++ [p.level], level := w.st.attention.levelOf k }) hw) ?_ ?_) <;> cases l <;> rfl

theorem serviceDoneOwner (l : Link) (hw : P w.st) : P (serviceDoneOwner l w).work.st := by
  unfold Machine.serviceDoneOwner
  split
  · exact hw
  · exact hP.sameSlots (hP.modPort l _ hw) rfl rfl

theorem holdoffOwner (f : Frame) (hw : P w.st) : P (holdoffOwner f w).work.st := by
  unfold Machine.holdoffOwner
  split
  · exact hw
  · exact hP.sameSlots (hP.modPort f.link _ hw) rfl rfl

theorem takeoverOwner (l : Link) (hw : P w.st) : P (takeoverOwner l w).work.st := by
  unfold Machine.takeoverOwner
  split
  · exact hw
  · split
    · exact hw
    · exact hP.becomeActive l _ (hP.modPort l.other _ hw)

theorem releaseOwner (l : Link) (hw : P w.st) : P (releaseOwner l w).work.st := by
  unfold Machine.releaseOwner
  split
  · exact hP.stopActive l _ _ hw
  · exact hw

theorem ackEpisodeOwner (l : Link) (hw : P w.st) : P (ackEpisodeOwner l w).work.st := by
  unfold Machine.ackEpisodeOwner
  split
  · exact hw
  · split
    · exact hP.sameSlots hw rfl rfl
    · exact hw

/-! ### Restarts -/

theorem postClassified (hw : P w.st) : P (w.postClassified i).st := by
  unfold Work.postClassified
  split
  · exact hP.postFault i _ _ hw
  · exact hw

/-- A restart scans the slots afresh, whatever it finds. -/
theorem restart (cause : RestartCause) : P (w.restart cause).st :=
  Kept.foldl (g := Work.st) _ (fun _ i h => hP.postClassified i h) _ _ (on (hP.postShelf _ _ (hP.scan w.st)))

theorem restartOwner : P (Machine.restartOwner w).work.st := by
  unfold Machine.restartOwner
  dsimp only
  exact hP.restart .command

theorem linkReset (l : Link) (hw : P w.st) : P (w.linkReset l).st := by
  unfold Work.linkReset
  dsimp only
  split
  · exact hP.stopActive l _ _ (on (hP.modPort l _ hw))
  · exact hP.sameSlots (hP.modPort l _ (on (hP.modPort l _ hw))) rfl rfl

theorem halt (hs : P s) : P s.halt := by
  refine hP.quiet s _ ⟨fun j => ?_, ?_⟩ hs
  · simp [State.halt, State.slot, Slot.halt, driveOf]
  · simp [State.halt, switchOf]

theorem tick (hs : P s) : P s.tick := by
  refine hP.quiet s _ ⟨fun j => ?_, ?_⟩ hs
  · simp [State.tick, State.slot, Slot.tick, driveOf]
  · simp [State.tick, switchOf]

/-! ### Commands and steps -/

omit hP in
theorem shelfOnly (f : Frame) (owner : Work → Handled) (ho : ∀ v : Work, P v.st → P (owner v).work.st) (hw : P w.st) :
    P (shelfOnly f owner w).work.st := by
  unfold Machine.shelfOnly
  split
  · exact ho _ hw
  · exact hw

omit hP in
theorem oneSlot (f : Frame) (owner : SlotId → Work → Handled)
    (ho : ∀ (i : SlotId) (v : Work), P v.st → P (owner i v).work.st) (hw : P w.st) :
    P (oneSlot f owner w).work.st := by
  unfold Machine.oneSlot
  split
  · exact hw
  · exact ho _ _ hw

/-- A command that carries slot 0. -/
theorem shelfCommand (code : Byte) (kind : CommandKind) (owner : Work → Handled) (f : Frame)
    (ho : ∀ v : Work, P v.st → P (owner v).work.st) (hs : P s) :
    P (s.accept code kind (Machine.shelfOnly f owner) f) :=
  hP.accept code kind _ f (fun _ hv => Kept.shelfOnly f owner ho hv) hs

/-- A command that names a slot. -/
theorem slotCommand (code : Byte) (kind : CommandKind) (owner : SlotId → Work → Handled) (f : Frame)
    (ho : ∀ (i : SlotId) (v : Work), P v.st → P (owner i v).work.st) (hs : P s) :
    P (s.accept code kind (Machine.oneSlot f owner) f) :=
  hP.accept code kind _ f (fun _ hv => Kept.oneSlot f owner ho hv) hs

end Kept

end Sys2Proof.SlotLines
end

section
/-! The laws of the output lines (R28, R30, R31) and of the lane enables (R32, R98): every step keeps them. -/

namespace Sys2Proof.SlotLines

open Sys2Proof Sys2Proof.Machine Sys2Proof.Laws Sys2Proof.Safety

namespace Kept

variable {P : State → Prop} (hP : Kept P) {s t : State}

include hP

/-- Line edges, resets and timer expiries. -/
theorem exec_event (c : Instr) (hs : P s) (h : exec c s = .next t)
    (hc : encodeTransaction c = none) : P t := by
  cases c with
  | powerOn => cases h; exact hP.powerOn s
  | resetLAsserted =>
    cases h
    split
    · exact hs
    · exact hP.halt hs
  | resetLReleased =>
    cases h
    split
    · exact hP.run _ (hP.restart .resetLine)
    · exact hs
  | lrstAsserted l =>
    cases h
    split
    · exact hP.modPort l _ hs
    · exact hP.run _ (hP.linkReset l hs)
  | lrstReleased l => cases h; exact hP.modPort l _ hs
  | refclkLoss => cases h; exact hP.modShelf _ hs
  | refclkReturn => cases h; exact hP.modShelf _ hs
  | presenceEdge i level => cases h; exact hP.line _ (fun _ => hP.presEdge i level) (hP.modLines i _ hs)
  | presenceSettled i => cases h; exact hP.expiry _ _ (fun h => hP.presenceSettled i _ (on (hP.modCond i _ h))) hs
  | presenceLost i => cases h; exact hP.expiry _ _ (fun h => hP.extract i (on (hP.modCond i _ h))) hs
  | handleEdge i level => cases h; exact hP.line _ (fun _ h => on (hP.modCond i _ h)) (hP.modLines i _ hs)
  | handleSettleExpiry i => cases h; exact hP.expiry _ _ (fun h => hP.handleSettled i (on (hP.modCond i _ h))) hs
  | pgoodRose i => cases h; exact hP.line _ (fun _ => hP.pgoodRose i) (hP.modLines i _ hs)
  | pgoodFell i => cases h; exact hP.line _ (fun _ => hP.pgoodFell i) (hP.modLines i _ hs)
  | faultAsserted i level =>
    cases h
    refine hP.line _ (fun v hv => ?_) (hP.modLines i _ hs)
    split
    · exact hP.faultAsserted i hv
    · exact hv
  | notifyAsserted i level =>
    cases h
    refine hP.line _ (fun v hv => ?_) (hP.modLines i _ hs)
    split
    · exact hP.notified i hv
    · exact hv
  | supplyLowEdge level => cases h; exact hP.line _ (fun _ h => on (hP.modShelf _ h)) (hP.modShelf _ hs)
  | supplyLowSettleExpiry => cases h; exact hP.expiry _ _ (fun h => hP.supplySettled (on (hP.modShelf _ h))) hs
  | chargeTimeout i => cases h; exact hP.phaseExpiry i _ _ (fun _ => hP.inrushFault i) hs
  | coolDownExpiry i => cases h; exact hP.phaseExpiry i _ _ (fun _ => hP.coolDownEnds i) hs
  | stabilizeTimeExpiry i => cases h; exact hP.phaseExpiry i _ _ (fun _ => hP.stabilizeEnds i) hs
  | bootTimeout i => cases h; exact hP.phaseExpiry i _ _ (fun _ => hP.bootTimeout i) hs
  | powerOffTimerExpiry i => cases h; exact hP.phaseExpiry i _ _ (fun _ => hP.powerOffEnds i) hs
  | drainDeadlineExpiry i => cases h; exact hP.phaseExpiry i _ _ (fun _ => hP.deadline i) hs
  | isolatingLaneSettleExpiry i => cases h; exact hP.phaseExpiry i _ _ (fun _ => hP.testIsolating i) hs
  | entryLaneSettleExpiry p n =>
    cases h
    split
    · exact hs
    · exact hP.expiry _ _ (fun h => on (hP.announce _ _ (hP.modPair _ _ _ h))) hs
  | gatherWindowExpiry =>
    cases h
    split
    · exact hP.expiry _ _ (fun h => hP.windowEnds h) hs
    · exact hs
  | channelLostPauseExpiry i => cases h; exact hP.expiry _ _ (fun h => on (hP.modChan i _ h)) hs
  | holdoffExpiry l => cases h; exact hP.expiry _ _ (fun h => on (hP.sameSlots (hP.modPort l _ h) rfl rfl)) hs
  | supervisionExpiry l =>
    cases h
    split
    · exact hP.expiry _ _ (fun h => hP.fallSilent l h) hs
    · exact hs
  | ledBlinkToggle i => cases h; exact hP.expiry _ _ (fun h => on (hP.modSlot i _ (fun _ => rfl) h)) hs
  | identityReadComplete i block =>
    cases h
    split
    · exact hP.run _ (hP.identityCompletes i block hs)
    · exact hs
  | noticeReadComplete i code arg =>
    cases h
    split
    · exact hP.run _ (on (hP.endNotice i (hP.notice i code arg (on (hP.restored i hs)))))
    · exact hs
  | cueWriteComplete i =>
    cases h
    split
    · exact hP.run _ (on (hP.modChan i _ (hP.cueWritten i _ (on (hP.restored i hs)))))
    · exact hs
  | noAnswer i =>
    cases h
    split
    · exact hs
    · refine hP.run _ ?_
      split
      · exact on (hP.modChan i _ hs)
      · exact hP.transferFails i _ hs
  | _ => exact absurd hc (by simp [encodeTransaction])

/-- Link transactions. -/
theorem exec_transaction (c : Instr) (hs : P s) (h : exec c s = .next t)
    (hc : encodeTransaction c ≠ none) : P t := by
  cases c with
  | shortFrame l n => cases h; exact hP.shortFetch l n hs
  | unknownCommand code f => cases h; exact hP.accept _ _ _ f (fun _ hv => hv) hs
  | noneFrame f => cases h; exact hP.accept _ _ _ f (fun _ hv => hv) hs
  | readSlot f =>
    cases h
    refine hP.accept _ _ _ f (fun _ hv => ?_) hs
    split <;> exact hv
  | readLinks f =>
    cases h
    refine hP.accept _ _ _ f (fun _ hv => ?_) hs
    split
    · exact hv
    · split <;> exact hv
  | readShelf f => cases h; exact hP.shelfCommand _ _ _ f (fun _ hv => hv) hs
  | readQueues f => cases h; exact hP.shelfCommand _ _ _ f (fun _ hv => hv) hs
  | readBatch f => cases h; exact hP.shelfCommand _ _ _ f (fun _ hv => hv) hs
  | readPending f => cases h; exact hP.shelfCommand _ _ _ f (fun _ hv => hv) hs
  | readEpisode f => cases h; exact hP.shelfCommand _ _ _ f (fun _ hv => hv) hs
  | setPolicy f => cases h; exact hP.accept _ _ _ f (fun _ => hP.setPolicyOwner f) hs
  | setShelf f => cases h; exact hP.shelfCommand _ _ _ f (fun _ => hP.setShelfOwner f) hs
  | setLevel f => cases h; exact hP.shelfCommand _ _ _ f (fun _ => hP.setLevelOwner f) hs
  | admitSlot f => cases h; exact hP.slotCommand _ _ _ f (fun i _ => hP.admitOwner i) hs
  | denyAdmit f => cases h; exact hP.slotCommand _ _ _ f (fun i _ => hP.denyAdmitOwner i) hs
  | retireAdd f => cases h; exact hP.slotCommand _ _ _ f (fun i _ => hP.retireAddOwner i f) hs
  | denyRetire f => cases h; exact hP.slotCommand _ _ _ f (fun i _ => hP.denyRetireOwner i) hs
  | batchHold f => cases h; exact hP.shelfCommand _ _ _ f (fun _ => hP.batchHoldOwner) hs
  | batchResume f => cases h; exact hP.shelfCommand _ _ _ f (fun _ => hP.batchResumeOwner) hs
  | batchAbandon f => cases h; exact hP.shelfCommand _ _ _ f (fun _ => hP.batchAbandonOwner) hs
  | clearBatchFault f => cases h; exact hP.shelfCommand _ _ _ f (fun _ => hP.clearBatchFaultOwner) hs
  | clearSlot f => cases h; exact hP.slotCommand _ _ _ f (fun i _ => hP.clearSlotOwner i) hs
  | thaw f => cases h; exact hP.shelfCommand _ _ _ f (fun _ => hP.thawOwner) hs
  | nextAttention f => cases h; exact hP.shelfCommand _ _ _ f (fun _ => hP.nextAttentionOwner f.link) hs
  | serviceDone f => cases h; exact hP.shelfCommand _ _ _ f (fun _ => hP.serviceDoneOwner f.link) hs
  | holdoff f => cases h; exact hP.shelfCommand _ _ _ f (fun _ => hP.holdoffOwner f) hs
  | takeover f => cases h; exact hP.shelfCommand _ _ _ f (fun _ => hP.takeoverOwner f.link) hs
  | release f => cases h; exact hP.shelfCommand _ _ _ f (fun _ => hP.releaseOwner f.link) hs
  | ackEpisode f => cases h; exact hP.shelfCommand _ _ _ f (fun _ => hP.ackEpisodeOwner f.link) hs
  | restart f => cases h; exact hP.shelfCommand _ _ _ f (fun _ _ => hP.restartOwner) hs
  | _ => exact absurd rfl hc

theorem exec (c : Instr) (hs : P s) (h : Machine.exec c s = .next t) : P t := by
  by_cases hc : encodeTransaction c = none
  · exact hP.exec_event c hs h hc
  · exact hP.exec_transaction c hs h hc

/-- A step takes a command or lets the time base act. -/
theorem step (hs : P s) (h : Machine.step s = .next t) : P t := by
  unfold Machine.step at h
  split at h
  · unfold idle at h
    split at h
    · cases h; exact hs
    · split at h
      · cases h; exact hP.tick hs
      · exact hP.exec _ hs h
      · exact hP.exec _ (hP.sameSlots (t := { s with coincidences := s.coincidences + 1 }) hs rfl rfl) h
  · rename_i rest _
    exact hP.exec _ (hP.sameSlots (t := { s with pending := rest }) hs rfl rfl) h

end Kept

/-! ### The output lines -/

/-- Lines that are those of a state (R28, R30, R31). -/
def LinesOf (d : SlotState × OutputLines) : Prop :=
  d.2.preEn = d.1.preEnOn ∧ d.2.mainEn = d.1.mainEnOn ∧
    (d.1 ≠ .charging → d.2.ilim = if d.1.mainEnOn then 15 else 0) ∧ d.2.led = d.1.ledPattern

theorem outputsFollow_iff (s : State) : OutputsFollow s ↔ ∀ i : SlotId, LinesOf (driveOf (s.slot i)) := Iff.rfl

/-- A move sets the lines of the state entered, whatever they were (R28, R29). -/
theorem enter_linesOf (set : ShelfSettings) (new : SlotState) (why : Option ReasonCode) (x : Slot) :
    LinesOf (driveOf (Slot.enter set new why x)) := by
  obtain ⟨hpre, hmain, hilim, hled, _, _⟩ := enter_enables set new why x
  refine ⟨hpre, hmain, fun hc => ?_, hled⟩
  have hoff : new.preEnOn = false := by 
    revert hc; cases new <;> simp [driveOf, Slot.enter, SlotRecord.enter, SlotState.preEnOn]
  show (Slot.enter set new why x).out.ilim = _
  rw [hilim, ilimCode, hoff]
  rfl

/-- Classification moves the slot and no other (R170). -/
theorem classify_drive (s : State) (i j : SlotId) :
    (j ≠ i → driveOf ((s.classify i).slot j) = driveOf (s.slot j)) ∧ LinesOf (driveOf ((s.classify i).slot i)) := by
  unfold State.classify
  dsimp only
  split
  · exact ⟨fun h => by simp [h], by simpa using enter_linesOf _ _ _ _⟩
  · exact ⟨fun h => by simp [h], by simpa [driveOf] using enter_linesOf _ _ _ _⟩
  · exact ⟨fun h => by simp [h], by simpa using enter_linesOf _ _ _ _⟩
  · exact ⟨fun h => by simp [h], by simpa [driveOf] using enter_linesOf _ _ _ _⟩

/-- After a walk of classifications every slot met has the lines of its state. -/
theorem scan_linesOf (j : SlotId) : ∀ (l : List SlotId) (s : State), j ∈ l ∨ LinesOf (driveOf (s.slot j)) →
    LinesOf (driveOf ((l.foldl State.classify s).slot j))
  | [], _, h => h.resolve_left List.not_mem_nil
  | i :: t, s, h => by
    obtain ⟨hother, hself⟩ := classify_drive s i j
    refine scan_linesOf j t (s.classify i) ?_
    by_cases hji : j = i
    · right; rw [hji]; exact hself
    · rcases h with h | h
      · exact .inl ((List.mem_cons.1 h).resolve_left hji)
      · right; rw [hother hji]; exact h

theorem mem_allSlots (i : SlotId) : i ∈ allSlots := by revert i; decide

theorem driveOf_relinked (s : State) (f : List LinkEntry → List LinkEntry) (j : SlotId)
    (h : LinesOf (driveOf (s.slot j))) : LinesOf (driveOf ((s.setLinks f).slot j)) := by
  rw [setLinks_slot]; exact h

theorem powerOn_linesOf (s : State) (j : SlotId) : LinesOf (driveOf (s.powerOn.slot j)) := by
  simp [State.powerOn, State.slot, Slot.powerOn, Slot.initial, driveOf, LinesOf, SlotRecord.initial, OutputLines.allOff,
    SlotState.preEnOn, SlotState.mainEnOn, SlotState.ledPattern]

theorem restart_linesOf (s : State) (j : SlotId) :
    LinesOf (driveOf ((allSlots.foldl State.classify s.restartValues).restartLinks.slot j)) := by
  rw [State.restartLinks]
  exact driveOf_relinked _ _ j (scan_linesOf j _ _ (.inl (mem_allSlots j)))

theorem outputsFollow_kept : Kept OutputsFollow where
  enter s i new why h := (outputsFollow_iff _).2 fun j => by
    rw [enter_slot]
    split
    · exact enter_linesOf _ _ _ _
    · exact h j
  setLinks s f h := (outputsFollow_iff _).2 fun j => driveOf_relinked s f j (h j)
  quiet s t hq h := (outputsFollow_iff _).2 fun j => by rw [hq.1 j]; exact h j
  powerOn s := (outputsFollow_iff _).2 (powerOn_linesOf s)
  scan s := (outputsFollow_iff _).2 (restart_linesOf s)

/-- Settles O7: a move sets the lines of the state it enters, and nothing else a step does touches a state or a driven
line. -/
theorem everyStepKeepsOutputs : Obligations.EveryStepKeepsOutputs := fun _ _ hs h => outputsFollow_kept.step hs h

/-! ### The lane enables -/

theorem lanesFollow_kept : Kept LanesFollow where
  enter s i new why h j := by
    obtain ⟨_, _, _, _, ha, hb⟩ := enter_enables s.settings new why (s.slot i)
    rw [enter_slot, enter_links]
    split
    · rename_i hj; rw [ha, hb, hj]; exact h i
    · exact h j
  setLinks s f _ j := setLinks_lanes s f j
  quiet s t hq h j := by
    obtain ⟨hdrive, hlinks⟩ := hq
    have ha : (t.slot j).out.laneEnA = (s.slot j).out.laneEnA := congrArg (·.2.laneEnA) (hdrive j)
    have hb : (t.slot j).out.laneEnB = (s.slot j).out.laneEnB := congrArg (·.2.laneEnB) (hdrive j)
    rw [ha, hb, switchedOn_congr hlinks, switchedOn_congr hlinks]
    exact h j
  powerOn s j := by
    simp [State.powerOn, State.slot, Slot.powerOn, Slot.initial, OutputLines.allOff, switchedOn]
  scan s := by
    rw [State.restartLinks]
    exact setLinks_lanes _ _

/-- Settles O8: every change of the Link Table drives the lane enables from it, and nothing else a step does touches an
enable or a switch. -/
theorem everyStepKeepsLanes : Obligations.EveryStepKeepsLanes := fun _ _ hs h => lanesFollow_kept.step hs h

end Sys2Proof.SlotLines
end

section
/-! The time base, the reset line, and the edges and expiries that change one slot's filters, engine or LED and no more
(R8, R19 to R26, R31, R33, R83, R85, R89, R153, R164, R169). -/

namespace Sys2Proof.SlotLines

open Sys2Proof Sys2Proof.Machine Sys2Proof.Laws Sys2Proof.Safety

/-! ### Updates of one slot -/

theorem modSlot_modSlot (s : State) (i : SlotId) (f g : Slot → Slot) :
    (s.modSlot i f).modSlot i g = s.modSlot i fun x => g (f x) := by
  simp [State.modSlot, State.setSlot, State.slot]

theorem modSlot_congr (s : State) (i : SlotId) {f g : Slot → Slot} (h : f (s.slot i) = g (s.slot i)) :
    s.modSlot i f = s.modSlot i g := by
  rw [State.modSlot, State.modSlot, h]

theorem modCond_modLines (s : State) (i : SlotId) (f : InputLines → InputLines) (g : Conditioning → Conditioning) :
    (s.modLines i f).modCond i g = s.modSlot i fun x => { x with lines := f x.lines, cond := g x.cond } :=
  modSlot_modSlot s i _ _

theorem modChan_modLines (s : State) (i : SlotId) (f : InputLines → InputLines) (g : Channel → Channel) :
    (s.modLines i f).modChan i g = s.modSlot i fun x => { x with lines := f x.lines, chan := g x.chan } :=
  modSlot_modSlot s i _ _

/-- Outside a restart an edge that only changes a slot does so beside its level. -/
theorem edge_on (s : State) (i : SlotId) (level : InputLines → InputLines) (f : State → State)
    (h : s.shelf.inReset = false) : (s.modLines i level).line (fun w => w.on f) = f (s.modLines i level) := by
  rw [line_taken _ _ (by exact h), run_on]

/-- An edge that is no event leaves its level. -/
theorem edge_none (s : State) (i : SlotId) (level : InputLines → InputLines) (f : Work → Work)
    (h : f (Work.start (s.modLines i level)) = Work.start (s.modLines i level)) :
    (s.modLines i level).line f = s.modLines i level := by
  unfold State.line
  split
  · rfl
  · rw [run_done f _ (by rw [h]; rfl), h]; rfl

/-! ### The time base -/

theorem step_idle (s : State) (hp : s.pending = []) : step s = idle s := by simp [step, hp]

/-- The choice among several due expiries is one of them, whatever the free value. -/
theorem getD_mod_mem {α : Type} (l : List α) (d : α) (n : Nat) (h : l ≠ []) : l.getD (n % l.length) d ∈ l := by
  have hlt : n % l.length < l.length := Nat.mod_lt _ (List.length_pos_iff.2 h)
  rw [List.getD_eq_getElem _ _ hlt]
  exact List.getElem_mem hlt

/-- Settles O2: the time base takes a due expiry, else one millisecond passes. -/
theorem idleStepsKeepTime : Obligations.IdleStepsKeepTime := by
  intro s hp ⟨hclock, hreset⟩
  have hidle : step s = match s.due with
      | [] => .next s.tick
      | [c] => exec c s
      | c :: d :: rest =>
        exec ((c :: d :: rest).getD (Config.coincidence s.coincidences % (c :: d :: rest).length) c)
          { s with coincidences := s.coincidences + 1 } := by
    rw [step_idle s hp, idle, hclock, hreset]
    rfl
  rw [hidle]
  refine ⟨fun c hd => by rw [hd], fun hlen => ?_, fun hd => ?_⟩
  · match hd : s.due with
    | [] => simp [hd] at hlen
    | [c] => simp [hd] at hlen
    | c :: d :: rest => exact ⟨_, getD_mod_mem _ c _ (by simp), rfl⟩
  · rw [hd]
    refine ⟨s.tick, rfl, ?_, fun i => ?_, ?_, ?_, fun l => ?_, ?_, ?_, ?_, ?_, ?_, ?_, ?_⟩
    case refine_2 => simp [State.tick, State.slot, Slot.tick, tickTimer]
    case refine_5 => cases l <;> rfl
    all_goals simp only [State.tick, Config.elapsedModulus, tickTimer]

theorem phaseExpiry_not_taken (s : State) (i : SlotId) (st : SlotState) (f : Work → Work) (h : ¬ Running s) :
    s.phaseExpiry i st f = s := expiry_not_taken s _ _ fun h' => h h'.2

/-- Settles O3: an expiry is taken only while the part is running. -/
theorem nothingExpiresWithoutTheTimeBase : Obligations.NothingExpiresWithoutTheTimeBase := by
  intro s hstill
  have still : ∀ (timer : Option Nat) (f : Work → Work), s.expiry timer f = s :=
    fun timer f => expiry_not_taken s timer f fun h => hstill h.2
  refine ⟨fun hp => ?_, fun c hc => ?_⟩
  · have hcond : (!s.shelf.refclk || s.shelf.inReset) = true := by
      by_contra hn
      exact hstill (by simpa [Running] using hn)
    rw [step_idle s hp, idle, if_pos hcond]
  · cases c with
    | presenceSettled i => exact congrArg _ (still _ _)
    | presenceLost i => exact congrArg _ (still _ _)
    | handleSettleExpiry i => exact congrArg _ (still _ _)
    | supplyLowSettleExpiry => exact congrArg _ (still _ _)
    | chargeTimeout i => exact congrArg _ (phaseExpiry_not_taken s i _ _ hstill)
    | coolDownExpiry i => exact congrArg _ (phaseExpiry_not_taken s i _ _ hstill)
    | stabilizeTimeExpiry i => exact congrArg _ (phaseExpiry_not_taken s i _ _ hstill)
    | bootTimeout i => exact congrArg _ (phaseExpiry_not_taken s i _ _ hstill)
    | powerOffTimerExpiry i => exact congrArg _ (phaseExpiry_not_taken s i _ _ hstill)
    | drainDeadlineExpiry i => exact congrArg _ (phaseExpiry_not_taken s i _ _ hstill)
    | isolatingLaneSettleExpiry i => exact congrArg _ (phaseExpiry_not_taken s i _ _ hstill)
    | entryLaneSettleExpiry p n =>
      show Host.Outcome.next _ = _
      congr 1
      split
      · rfl
      · exact still _ _
    | gatherWindowExpiry =>
      show Host.Outcome.next _ = _
      rw [still, ite_self]
    | channelLostPauseExpiry i => exact congrArg _ (still _ _)
    | holdoffExpiry l => exact congrArg _ (still _ _)
    | supervisionExpiry l =>
      show Host.Outcome.next _ = _
      rw [still, ite_self]
    | ledBlinkToggle i => exact congrArg _ (still _ _)
    | _ => exact absurd hc (by simp [isExpiry])

/-! ### The reset line -/

/-- Every command a frame carries goes through its port. -/
theorem frameRows_accept (s : State) (f : Frame) :
    ∀ row ∈ frameRows, ∃ (code : Byte) (kind : CommandKind) (owner : Work → Handled),
      exec (row.2 f) s = .next (s.accept code kind owner f) := by
  simp only [frameRows, changeRows, List.cons_append, List.nil_append, List.forall_mem_cons, List.not_mem_nil,
    false_imp_iff, implies_true, and_true]
  repeat' apply And.intro
  all_goals exact ⟨_, _, _, rfl⟩

/-- Settles O21: the reset line halts the part, and while it is low edges leave their levels alone and ports are
closed. -/
theorem resetLineHoldsThePart : Obligations.ResetLineHoldsThePart := by
  refine ⟨fun s hr => ?_, fun s i level f n hr => ?_⟩
  · refine ⟨s.halt, ?_, fun i => ?_, ?_, ?_, ?_, fun l => ?_, ?_, ?_, ?_, ?_, ?_⟩
    case refine_1 =>
      show Host.Outcome.next _ = _
      rw [hr]; rfl
    case refine_2 => simp [State.halt, State.slot, Slot.halt]
    case refine_6 => cases l <;> rfl
    all_goals simp only [State.halt]
  · have closed : s.closed f.link = true := by simp [State.closed, hr]
    have held : ∀ (level : InputLines → InputLines) (g : Work → Work),
        (s.modLines i level).line g = s.modLines i level := fun level g => line_held g _ hr
    have heldShelf : ∀ (level : ShelfLines → ShelfLines) (g : Work → Work), (level s.shelf).inReset = true →
        (s.modShelf level).line g = s.modShelf level := fun level g h => line_held g _ h
    refine ⟨?_, congrArg _ (held _ _), congrArg _ (held _ _), congrArg _ (held _ _), congrArg _ (held _ _),
      congrArg _ (held _ _), congrArg _ (held _ _), congrArg _ (heldShelf _ _ hr), ?_,
      fun code => congrArg _ (accept_closed _ _ _ f s closed), fun row hrow => ?_⟩
    · show Host.Outcome.next _ = _
      rw [hr]; rfl
    · show Host.Outcome.next _ = _
      rw [State.shortFetch, closed]; rfl
    · obtain ⟨code, kind, owner, he⟩ := frameRows_accept s f row hrow
      rw [he, accept_closed _ _ _ f s closed]

/-! ### Edges -/

/-- An engine without a transfer or a pause, with a notice pending and no cue to be served first, reads the notice
(R83). -/
theorem choose_notice (c : Channel) (ht : c.transfer = none) (hp : c.pause = none) (hi : c.identityDue = false)
    (hn : c.noticePending = true) (hq : c.cueQueue = [] ∨ c.lastServed = .cue) : c.choose = c.beginNotice := by
  unfold Channel.choose
  rcases hq with hq | hq
  · simp [ht, hp, hi, hn, hq]
  · simp [ht, hp, hi, hn, hq]

/-- A presence edge in a state whose filter is in LOSS mode (R21). -/
theorem edge_loss (p : Policy) (level : Level) (c : Conditioning) :
    c.edge p false level = { c with loss := if level = .high then some p.presenceLoss else none } := by
  cases level <;> rfl

/-- The states whose presence filter is in DEBOUNCE mode (R20, R22). -/
theorem debounces_iff (st : SlotState) : st.debounces = true ↔ st = .empty ∨ st = .settling := by
  cases st <;> simp [SlotState.debounces]

/-- A presence edge the Sequencer does not act on changes the filter alone (R20, R21). -/
theorem presEdge_filter (s : State) (i : SlotId) (level : Level) (hr : s.shelf.inReset = false)
    (hn : (s.stateOf i).debounces = false ∨ s.stateOf i ≠ .empty ∨ s.roleOf i = .unused) :
    exec (.presenceEdge i level) s =
      .next (s.modSlot i fun x =>
        { x with
          lines := { x.lines with presL := level }
          cond := x.cond.edge (s.recordOf i).policy (s.stateOf i).debounces level }) := by
  have hw : Work.presEdge i level (Work.start (s.modLines i fun v => { v with presL := level })) =
      (Work.start (s.modLines i fun v => { v with presL := level })).on
        (State.modCond i (Conditioning.edge (s.recordOf i).policy (s.stateOf i).debounces level)) := by
    unfold Work.presEdge
    simp only [start_st, modLines_recordOf, modLines_stateOf]
    split
    · rename_i hd
      rcases presenceEdge_cases i ((Work.start (s.modLines i fun v => { v with presL := level })).on
        (State.modCond i (Conditioning.edge (s.recordOf i).policy (s.stateOf i).debounces level)))
        with ⟨he, hu, _⟩ | ⟨_, h⟩
      · simp only [State.roleOf, on_st, start_st, modCond_stateOf, modCond_recordOf, modLines_stateOf,
          modLines_recordOf] at he hu hn
        exact absurd hn (by simp [he, hu, SlotState.debounces])
      · exact h
    · rfl
  show Host.Outcome.next _ = _
  rw [line_taken _ _ (by exact hr), run_done _ _ (by rw [hw]; rfl), hw]
  exact congrArg _ (modCond_modLines s i _ _)

/-- Settles O24: an edge keeps its level and starts or stops its filter; the notify line raises a notice read. -/
theorem edgesStartTheirFilters : Obligations.EdgesStartTheirFilters := by
  intro s i level
  refine ⟨rfl, rfl, fun hr => ⟨?_, ?_, fun hst => ?_, fun hst => ?_, fun hn => ?_, fun hlow hconv => ?_⟩⟩
  · exact congrArg _ ((edge_on s i _ _ hr).trans (modCond_modLines s i _ _))
  · show Host.Outcome.next _ = _
    rw [line_taken _ _ (by exact hr), run_on]
    rfl
  · have hd : (s.stateOf i).debounces = false := by
      rw [Bool.eq_false_iff, Ne, debounces_iff]; exact not_or.2 hst
    rw [presEdge_filter s i level hr (.inl hd), hd]
    simp only [edge_loss]
  · have hd : (s.stateOf i).debounces = true := by
      rw [debounces_iff]
      exact hst.symm.imp And.left id
    rw [presEdge_filter s i level hr (.inr (hst.imp (fun h => by simp [h]) And.right)), hd]
    rfl
  · refine congrArg _ (edge_none s i _ _ ?_)
    rcases hn with rfl | hn
    · rfl
    · simp [Work.notified, hn]
  · have hnotified : exec (.notifyAsserted i level) s =
        .next (s.modSlot i fun x =>
          { x with lines := { x.lines with ntfyL := .low }, chan := x.chan.raiseNotice }) := by
      subst hlow
      have hw : ∀ w : Work, w.st = s.modLines i (fun v => { v with ntfyL := .low }) →
          w.notified i = w.on (State.modChan i Channel.raiseNotice) := by
        intro w h
        simp [Work.notified, h, hconv]
      show Host.Outcome.next _ = _
      rw [line_taken _ _ (by exact hr), run_done _ _ (by rw [if_pos rfl, hw _ rfl]; rfl), if_pos rfl, hw _ rfl]
      exact congrArg _ (modChan_modLines s i _ _)
    rw [hnotified]
    refine ⟨fun hbusy => congrArg _ (modSlot_congr s i ?_), fun ht hp hi hq => congrArg _ (modSlot_congr s i ?_)⟩
    · simp only [Channel.raiseNotice]
      rw [choose_busy _ (by exact hbusy)]
    · simp only [Channel.raiseNotice]
      rw [choose_notice _ (by exact ht) (by exact hp) (by exact hi) rfl (by exact hq)]
      rfl

/-- Settles O26: outside the states named the flows of PGOOD and FLT_L are not entered. -/
theorem powerLinesLeaveOtherStates : Obligations.PowerLinesLeaveOtherStates := by
  intro s i
  refine ⟨fun hst => ?_, fun hst => ?_, ?_, fun hst => ?_⟩
  · refine congrArg _ (edge_none s i _ _ ?_)
    simp [Work.pgoodRose, hst]
  · refine congrArg _ (edge_none s i _ _ ?_)
    rcases pgoodFell_cases i (Work.start (s.modLines i fun v => { v with pgood := .low })) with
      ⟨h, _⟩ | ⟨h, _⟩ | ⟨h, _⟩ | ⟨_, _, _, h⟩
    · rw [start_st, modLines_stateOf] at h; simp [h] at hst
    · rw [start_st, modLines_stateOf] at h; simp [h] at hst
    · rw [start_st, modLines_stateOf] at h
      revert hst h
      cases s.stateOf i <;> simp [SlotState.runFaults, SlotState.conversing]
    · exact h
  · exact congrArg _ (edge_none s i _ _ rfl)
  · refine congrArg _ (edge_none s i _ _ ?_)
    rw [if_pos rfl]
    rcases faultAsserted_cases i (Work.start (s.modLines i fun v => { v with fltL := .low })) with
      ⟨h, _⟩ | ⟨h, _⟩ | ⟨_, _, _, h⟩
    · rw [start_st, modLines_stateOf] at h
      rcases h with h | h <;> simp [h] at hst
    · rw [start_st, modLines_stateOf] at h
      revert hst h
      cases s.stateOf i <;> simp [SlotState.runFaults, SlotState.conversing]
    · exact h

/-! ### Short timers -/

/-- The engine's choice is the one R83 names. -/
theorem choose_chosen (c : Channel) (ht : c.transfer = none) (hp : c.pause = none) : Chosen c c.choose := by
  obtain ⟨transfer, due, notice, queue, served, pause⟩ := c
  simp only at ht hp
  subst ht hp
  cases due
  · cases notice <;> cases queue <;> cases served <;>
      simp [Chosen, Channel.choose, Channel.beginNotice, Channel.beginCue, Channel.begin]
  · rfl

theorem otherSlots_modSlot (s : State) (i : SlotId) (f : Slot → Slot) : OtherSlots i s (s.modSlot i f) :=
  fun j hj => by rw [modSlot_slot, if_neg hj]

theorem onlySlot_modSlot (s : State) (i : SlotId) (f : Slot → Slot) : OnlySlot i s (s.modSlot i f) :=
  ⟨otherSlots_modSlot s i f, ⟨rfl, rfl, rfl, rfl, rfl, rfl, rfl, rfl, rfl⟩, rfl⟩

/-- Settles O40: the engine chooses again, the holdoff is judged anew, and the LED goes to its other half. -/
theorem shortTimersEnd : Obligations.ShortTimersEnd := by
  intro s i l hrun
  refine ⟨fun hp ht => ?_, fun hh => ?_, fun hb => ?_⟩
  · refine ⟨s.modChan i fun c => { c with pause := none }.choose, ?_, ?_, ?_, onlySlot_modSlot s i _, rfl, rfl⟩
    · exact congrArg _ ((expiry_taken s _ _ hp hrun).trans (run_on _ _))
    · rw [modChan_slot, if_pos rfl]
      exact choose_chosen _ ht rfl
    · rw [modChan_recordOf]
  · refine ⟨(s.modPort l fun p => { p with holdoff := none }).judge, ?_, ?_, ?_, ?_, ?_, fun k => ?_, ?_,
      judge_lines _⟩
    · exact congrArg _ ((expiry_taken s _ _ hh hrun).trans (run_on _ _))
    all_goals simp
  · refine congrArg _ (((expiry_taken s _ _ hb hrun).trans (run_on _ _)).trans (modSlot_congr s i ?_))
    cases hled : (s.slot i).out.led <;> simp [LedPattern.halfPeriod, Config.slowHalf, Config.fastHalf, hled]

end Sys2Proof.SlotLines
end

section
/-! The flows of one slot that no other slot takes part in: settling and identifying (chapters 2 and 3). -/

namespace Sys2Proof.SlotLines

open Sys2Proof Sys2Proof.Machine Sys2Proof.Laws Sys2Proof.Safety

/-! ### What a flow leaves of the rest -/

theorem OnlySlot.refl (i : SlotId) (s : State) : OnlySlot i s s :=
  ⟨fun _ _ => rfl, ⟨rfl, rfl, rfl, rfl, rfl, rfl, rfl, rfl, rfl⟩, rfl⟩

theorem SameShelf.trans {s t u : State} (h : SameShelf s t) (k : SameShelf t u) : SameShelf s u := by
  obtain ⟨a1, a2, a3, a4, a5, a6, a7, a8, a9⟩ := h
  obtain ⟨b1, b2, b3, b4, b5, b6, b7, b8, b9⟩ := k
  exact ⟨b1.trans a1, b2.trans a2, b3.trans a3, b4.trans a4, b5.trans a5, b6.trans a6, b7.trans a7, b8.trans a8,
    b9.trans a9⟩

theorem OnlySlot.trans {i : SlotId} {s t u : State} (h : OnlySlot i s t) (k : OnlySlot i t u) : OnlySlot i s u := by
  obtain ⟨hslots, hshelf, hlinks⟩ := h
  obtain ⟨kslots, kshelf, klinks⟩ := k
  exact ⟨fun j hj => (kslots j hj).trans (hslots j hj), SameShelf.trans hshelf kshelf, klinks.trans hlinks⟩

theorem onlySlot_enter (s : State) (i : SlotId) (new : SlotState) (why : Option ReasonCode) :
    OnlySlot i s (s.enter i new why) :=
  ⟨fun j hj => by rw [enter_slot, if_neg hj], ⟨rfl, rfl, rfl, rfl, rfl, rfl, rfl, rfl, rfl⟩, rfl⟩

theorem onlySlot_modPower (s : State) (i : SlotId) (f : PowerAccounts → PowerAccounts) : OnlySlot i s (s.modPower f) :=
  ⟨fun _ _ => rfl, ⟨rfl, rfl, rfl, rfl, rfl, rfl, rfl, rfl, rfl⟩, rfl⟩

theorem onlySlot_modEvent (s : State) (i : SlotId) (k : EventKey) (f : PendingEntry → PendingEntry) :
    OnlySlot i s (s.modEvent k f) :=
  ⟨fun _ _ => rfl, ⟨rfl, rfl, rfl, rfl, rfl, rfl, rfl, rfl, rfl⟩, rfl⟩

theorem onlySlot_openRequest (s : State) (i : SlotId) : OnlySlot i s (s.openRequest i) :=
  OnlySlot.trans (onlySlot_modSlot s i _) (OnlySlot.trans (onlySlot_modSlot _ i _) (onlySlot_modPower _ i _))

/-! ### Moves -/

/-- The lines after a move (R28, R29). -/
theorem enter_shows (s : State) (i : SlotId) (new : SlotState) (why : Option ReasonCode) :
    Shows i new.preEnOn new.mainEnOn (ilimCode new (s.recordOf i)) new.ledPattern (s.enter i new why) := by
  obtain ⟨hpre, hmain, hilim, hled, _, _⟩ := enter_enables s.settings new why (s.slot i)
  simp only [Shows, enter_slot, if_true]
  exact ⟨hpre, hmain, hilim, hled⟩

/-- Outside CHARGING the ILIM code is that of MAIN_EN (R30). -/
theorem ilimCode_other (st : SlotState) (r : SlotRecord) (hp : st.preEnOn = false) :
    ilimCode st r = if st.mainEnOn = true then 15 else 0 := by
  simp [ilimCode, hp, Config.ilimMain]

/-- The lines after a move to a state with no enable ON. -/
theorem enter_shows_off (s : State) (i : SlotId) (new : SlotState) (why : Option ReasonCode)
    (hp : new.preEnOn = false) (hm : new.mainEnOn = false) :
    Shows i false false 0 new.ledPattern (s.enter i new why) := by
  have h := enter_shows s i new why
  rwa [ilimCode_other new _ hp, hp, hm] at h

theorem shows_congr {i : SlotId} {pre main : Bool} {ilim : Nat} {led : LedPattern} {t u : State}
    (h : (u.slot i).out = (t.slot i).out) (ht : Shows i pre main ilim led t) : Shows i pre main ilim led u := by
  rw [Shows, h]; exact ht

/-- A state with no enable ON turns none ON. -/
theorem turnsOn_off (new : SlotState) (r : SlotRecord) (o : OutputLines) (hp : new.preEnOn = false)
    (hm : new.mainEnOn = false) : o.turnsOn (outputUpdate new r) = false := by
  simp [OutputLines.turnsOn, outputUpdate, hp, hm]

/-- A move to a state with no enable ON and the presence filter in LOSS mode hands nothing over. -/
theorem handsOver_off (i : SlotId) (new : SlotState) (x : Slot) (hp : new.preEnOn = false) (hm : new.mainEnOn = false)
    (hd : new.debounces = false ∨ x.record.state.debounces = true) : x.handsOver i new = [] :=
  handsOver_nil i new x (.inr (turnsOn_off new _ _ hp hm)) (hd.imp_right .inl)

/-- A move the PAU does not react to is the move alone. -/
theorem move_still (i : SlotId) (new : SlotState) (why : Option ReasonCode) (w : Work)
    (hr : new.releasesGrant = false ∨ (w.st.recordOf i).power = none)
    (hb : w.st.stateOf i ≠ .budgetWait) (hc : w.st.stateOf i ≠ .charging) : w.move i new why = w.enter i new why := by
  rcases hr with hr | hr
  · exact move_quiet i new why w hr hb hc
  · simp [Work.move, Work.react, State.moveFacts, hr, hb, hc]

/-- A move off every list that releases nothing. -/
theorem enter_offLists (s : State) (i : SlotId) (new : SlotState) (why : Option ReasonCode)
    (hr : new.releasesGrant = false ∨ (s.recordOf i).power = none)
    (hn : new ≠ .budgetWait ∧ new ≠ .queued ∧ new ≠ .charging) : (s.enter i new why).power = offLists i s.power := by
  obtain ⟨hb, hq, hc⟩ := hn
  rcases hr with hr | hr <;>
    simp [PowerAccounts.follow, PowerAccounts.releaseGrant, offLists, SlotRecord.reservedGrant, hr, hb, hq, hc]

/-- An event that is a move and hands nothing over. -/
theorem run_enter (s u : State) (f : Work → Work) (i : SlotId) (new : SlotState) (why : Option ReasonCode)
    (hf : f (Work.start s) = (Work.start u).enter i new why) (hh : (u.slot i).handsOver i new = []) :
    s.run f = u.enter i new why := by
  rw [run_done f s (by rw [hf, work_enter_todo, start_st, hh]; rfl), hf]
  rfl

/-! ### Settling and identifying -/

/-- A presence edge in EMPTY of a slot with a role is the move to SETTLING with the debounce started (R20, R35). -/
theorem presEdge_settles (s : State) (i : SlotId) (level : Level) (hst : s.stateOf i = .empty)
    (hrole : s.roleOf i ≠ .unused) :
    (Work.start s).presEdge i level =
      (Work.start (s.modCond i fun c => { c with debounce := some (s.recordOf i).policy.presenceDebounce })).enter i
        .settling none := by
  have hedge : ∀ w : Work, w.st.stateOf i = .empty → w.st.roleOf i ≠ .unused →
      w.presenceEdge i = w.enter i .settling none := by
    intro w he hu
    rw [← move_still i .settling none w (.inl rfl) (by simp [he]) (by simp [he])]
    rcases presenceEdge_cases i w with ⟨_, _, h⟩ | ⟨h, _⟩
    · exact h
    · exact absurd h (by simp [he, hu])
  unfold Work.presEdge
  simp only [start_st, hst]
  exact hedge _ (by simp [hst]) (by simpa [State.roleOf] using hrole)

/-- Settles O25: the edge is the move to SETTLING alone, as no list holds the slot and nothing is handed over. -/
theorem presenceEdgeStartsSettling : Obligations.PresenceEdgeStartsSettling := by
  intro s i level hr hst hrole
  let u := (s.modLines i fun v => { v with presL := level }).modCond i
    fun c => { c with debounce := some (s.recordOf i).policy.presenceDebounce }
  have hstate : (s.slot i).record.state = .empty := hst
  have hslot : u.slot i =
      { s.slot i with
        lines := { (s.slot i).lines with presL := level }
        cond := { (s.slot i).cond with debounce := some (s.recordOf i).policy.presenceDebounce } } := by simp [u]
  have hrun : exec (.presenceEdge i level) s = .next (u.enter i .settling none) := by
    refine congrArg _ ((line_taken _ (s.modLines i _) hr).trans (run_enter _ u _ i _ _ ?_ ?_))
    · rw [presEdge_settles _ i level (by simp [hst]) (by simpa [State.roleOf] using hrole)]
      simp [u]
    · exact handsOver_off _ _ _ rfl rfl (.inr (by simp [hslot, hstate, SlotState.debounces]))
  have honly : OnlySlot i s (u.enter i .settling none) :=
    OnlySlot.trans (OnlySlot.trans (onlySlot_modSlot s i _) (onlySlot_modSlot _ i _)) (onlySlot_enter u i _ _)
  refine ⟨_, hrun, ?_, ?_, ?_, ?_, ?_, ?_, ?_, ?_, ?_, enter_shows u i _ _, ?_, ?_, rfl, honly,
    enter_offLists u i _ _ (.inl rfl) (by decide)⟩
  all_goals simp [KeepsRecord, recordOf_eq, stateOf_eq, hslot, hstate, Slot.enter, SlotRecord.enter, phaseDuration,
    discardsIdentity, SlotState.clearsRetries, SlotState.clearsApproved, SlotState.clearsAdopted, faultOutstandingAfter,
    Conditioning.follow, Channel.follow, dropsConversation, SlotState.debounces, SlotState.dropsIdentity,
    SlotState.conversing]

/-- An identity read asked for of an engine in no transfer starts at once, whatever else waits or pauses (R83, R84). -/
theorem askIdentity_spec (c : Channel) :
    c.askIdentity.identityDue = true ∧ c.askIdentity.pause = none ∧
      (c.transfer = none → c.askIdentity.transfer = some { kind := .identityRead, attempt := 1 }) := by
  unfold Channel.askIdentity Channel.choose
  dsimp only
  split
  · rename_i h
    exact ⟨rfl, rfl, fun ht => by simp [ht] at h⟩
  · exact ⟨rfl, rfl, fun _ => rfl⟩

/-- A move to IDENTIFYING from a state that neither waits, charges nor converses, with the identity read it asks for
(R37). -/
theorem toIdentifying_eq (i : SlotId) (w : Work) (hb : w.st.stateOf i ≠ .budgetWait)
    (hc : w.st.stateOf i ≠ .charging) :
    w.toIdentifying i = (w.enter i .identifying none).on (State.modChan i Channel.askIdentity) := by
  rw [Work.toIdentifying, move_still i _ _ w (.inl rfl) hb hc]

/-- What a slot is after it has gone to IDENTIFYING: enables and LED OFF, and its engine asked to read the identity. -/
theorem toIdentifying_run (s u : State) (f : Work → Work) (i : SlotId)
    (hf : f (Work.start s) = (Work.start u).toIdentifying i) (hb : u.stateOf i ≠ .budgetWait)
    (hc : u.stateOf i ≠ .charging) :
    s.run f = (u.enter i .identifying none).modChan i Channel.askIdentity := by
  have hw : f (Work.start s) = ((Work.start u).enter i .identifying none).on (State.modChan i Channel.askIdentity) := by
    rw [hf, toIdentifying_eq i _ hb hc]
  rw [run_done f s ?_, hw]
  · rfl
  · rw [hw, on_todo, work_enter_todo, start_st, handsOver_off i .identifying _ rfl rfl (.inl rfl)]
    rfl

/-- A running debounce that ends samples the line and reports it (R20). -/
theorem presenceSettled_taken (s : State) (i : SlotId) (present : Bool) (hrun : Running s)
    (hd : (s.slot i).cond.debounce.isSome = true) (hp : ((s.slot i).lines.presL == .low) = present) :
    exec (.presenceSettled i) s = .next (s.run fun w =>
      (w.on (State.modCond i fun c => { c with debounce := none, present := present })).presenceSettled i present) := by
  rw [← hp]
  exact congrArg _ (expiry_taken s _ _ hd hrun)

/-- A line settled low takes a slot in SETTLING, or one with a role in EMPTY, to IDENTIFYING (R35, R36). -/
theorem presenceSettled_present (i : SlotId) (w : Work)
    (h : w.st.stateOf i = .settling ∨ (w.st.stateOf i = .empty ∧ w.st.roleOf i ≠ .unused)) :
    w.presenceSettled i true = w.toIdentifying i := by
  unfold Work.presenceSettled
  rcases h with h | ⟨h, hr⟩
  · simp [h]
  · simp [h, hr]

/-- Settles O27: a line settled low is the move to IDENTIFYING with its read asked for, one settled high the move
to EMPTY. -/
theorem presenceSettledDecides : Obligations.PresenceSettledDecides := by
  intro s i hrun hd
  refine ⟨fun hst hlow => ?_, fun hst hhigh hpower => ?_, fun hst hn => ?_⟩
  · let u := s.modCond i fun c => { c with debounce := none, present := true }
    have hdeb : (s.slot i).record.state.debounces = true := by
      rw [debounces_iff]; exact hst.symm.imp_left And.left
    have hstill : s.stateOf i ≠ .budgetWait ∧ s.stateOf i ≠ .charging := by
      rcases hst with h | ⟨h, _⟩ <;> simp [h]
    have hexec : exec (.presenceSettled i) s =
        .next ((u.enter i .identifying none).modChan i Channel.askIdentity) := by
      rw [presenceSettled_taken s i true hrun hd (by rw [hlow]; rfl), toIdentifying_run s u _ i ?_
        (by simpa [u] using hstill.1) (by simpa [u] using hstill.2)]
      exact presenceSettled_present i _ (by simpa [u, State.roleOf] using hst)
    have hslot : u.slot i = { s.slot i with cond := { (s.slot i).cond with debounce := none, present := true } } := by
      simp [u]
    have honly : OnlySlot i s ((u.enter i .identifying none).modChan i Channel.askIdentity) :=
      OnlySlot.trans (OnlySlot.trans (onlySlot_modSlot s i _) (onlySlot_enter u i _ _)) (onlySlot_modSlot _ i _)
    have hchan : (((u.enter i .identifying none).modChan i Channel.askIdentity).slot i).chan =
        (s.slot i).chan.askIdentity := by
      have hc : (s.slot i).record.state.conversing = false := by
        revert hdeb; cases (s.slot i).record.state <;> simp [SlotState.debounces, SlotState.conversing]
      simp [hslot, Slot.enter, Channel.follow, dropsConversation, SlotState.dropsIdentity, hc]
      simp [SlotState.conversing]
    obtain ⟨hdue, hpause, htrans⟩ := askIdentity_spec (s.slot i).chan
    refine ⟨_, hexec, ?_, ?_, ?_, ?_, ?_, by rw [hchan]; exact hdue, by rw [hchan]; exact hpause,
      fun ht => by rw [hchan]; exact htrans ht, ?_, rfl, honly, enter_offLists u i _ _ (.inl rfl) (by decide)⟩
    case refine_5 => exact shows_congr (by simp) (enter_shows_off u i .identifying none rfl rfl)
    case refine_2 =>
      have hnew : SlotState.identifying.debounces = false := rfl
      simp [hslot, Slot.enter, Conditioning.follow, hdeb, hnew, hlow]
    all_goals simp [KeepsRecord, recordOf_eq, stateOf_eq, hslot, Slot.enter, SlotRecord.enter, phaseDuration,
      discardsIdentity]
  · let u := s.modCond i fun c => { c with debounce := none, present := false }
    have hstate : (s.slot i).record.state = .settling := hst
    have hslot : u.slot i = { s.slot i with cond := { (s.slot i).cond with debounce := none, present := false } } := by
      simp [u]
    have hexec : exec (.presenceSettled i) s = .next (u.enter i .empty none) := by
      rw [presenceSettled_taken s i false hrun hd (by rw [hhigh]; rfl), run_enter s u _ i .empty none ?_ ?_]
      · rw [← move_still i .empty none (Work.start u) (.inr (by simpa [u] using hpower)) (by simp [u, hst])
          (by simp [u, hst])]
        simp [Work.presenceSettled, hst]
        rfl
      · exact handsOver_off _ _ _ rfl rfl (.inr (by simp [hslot, hstate, SlotState.debounces]))
    have honly : OnlySlot i s (u.enter i .empty none) :=
      OnlySlot.trans (onlySlot_modSlot s i _) (onlySlot_enter u i _ _)
    refine ⟨_, hexec, ?_, ?_, ?_, enter_shows_off u i .empty none rfl rfl, ?_, ?_, rfl, honly,
      enter_offLists u i _ _ (.inr (by simpa [u] using hpower)) (by decide)⟩
    all_goals simp [KeepsRecord, recordOf_eq, stateOf_eq, hslot, hstate, Slot.enter, SlotRecord.enter,
      discardsIdentity, faultOutstandingAfter, Conditioning.follow, SlotState.debounces]
  · rw [presenceSettled_taken s i (decide ((s.slot i).lines.presL = .low)) hrun hd rfl]
    have hstay : ∀ w : Work, w.st.stateOf i = .empty → w.st.roleOf i = s.roleOf i →
        w.presenceSettled i (decide ((s.slot i).lines.presL = .low)) = w := by
      intro w he hr
      rcases hn with h | h
      · simp [Work.presenceSettled, he, hr, h]
      · simp [Work.presenceSettled, he, h]
    rw [run_done _ _ ?_, hstay _ (by simpa using hst) (by simp [State.roleOf])]
    · rfl
    · rw [hstay _ (by simpa using hst) (by simp [State.roleOf])]
      rfl

end Sys2Proof.SlotLines
end

section
/-! The end of a cool-down (R49, R68, R70, R72) and the back-off of the permit holders (R76, R77). -/

namespace Sys2Proof.SlotLines

open Sys2Proof Sys2Proof.Machine Sys2Proof.Laws Sys2Proof.Safety

/-! ### The cool-down -/

theorem onlySlot_giveStamp (s : State) (i : SlotId) : OnlySlot i s (s.giveStamp i) :=
  OnlySlot.trans (onlySlot_modSlot s i _) (onlySlot_modPower _ i _)

/-- The counter stays at its largest value (R68). -/
theorem nextStamp_eq (c : Nat) (h : c ≤ 4294967295) : nextStamp c = min 4294967295 (c + 1) := by
  unfold nextStamp Config.stampMax
  split <;> omega

/-- The state in which the cool-down of a slot leaves it queued, before the arbiter acts (R49, R68). -/
def cooled (i : SlotId) (s : State) : State :=
  ((s.modRecord i fun r => { r with phaseTimer := none }).giveStamp i).enter i .queued none

theorem onlySlot_cooled (s : State) (i : SlotId) : OnlySlot i s (cooled i s) :=
  OnlySlot.trans (onlySlot_modSlot s i _) (OnlySlot.trans (onlySlot_giveStamp _ i) (onlySlot_enter _ i _ _))

/-- The record of a slot back in the queue: a new stamp, and no timer. -/
theorem cooled_recordOf (s : State) (i : SlotId) :
    (cooled i s).recordOf i =
      { s.recordOf i with
        state := .queued, phaseTimer := none, phasePaused := false, reason := none, priorState := none
        laneEvidence := false, warningWritten := false
        power := (s.recordOf i).power.map fun p =>
          { p with joinStamp := some s.power.stampCounter, permitHeld := false } } := by
  have hstamp := (giveStamp_spec (s.modRecord i fun r => { r with phaseTimer := none }) i i).1
  simp only [if_true, modRecord_recordOf, modRecord_power] at hstamp
  rw [cooled, enter_recordOf, if_pos rfl, hstamp]
  simp [SlotRecord.enter, phaseDuration, discardsIdentity, SlotState.clearsRetries, SlotState.clearsApproved,
    SlotState.clearsAdopted, faultOutstandingAfter, powerAfter, SlotState.releasesGrant, SlotState.hasReason,
    SlotState.preEnOn]
  rfl

/-- The accounts of a slot back in the queue. -/
theorem cooled_power (s : State) (i : SlotId) :
    (cooled i s).power =
      { s.power with
        stampCounter := nextStamp s.power.stampCounter
        waitList := without i s.power.waitList
        permitQueue := insertSlot
          ((s.modRecord i fun r => { r with phaseTimer := none }).giveStamp i).queuesBefore i
          (without i s.power.permitQueue)
        holders := without i s.power.holders } := by
  rw [cooled, enter_power, (giveStamp_spec _ i i).2.1]
  rfl

/-- A move that hands nothing over, as the first thing an event does. -/
theorem enter_start (u : State) (i : SlotId) (new : SlotState) (why : Option ReasonCode)
    (hh : (u.slot i).handsOver i new = []) : (Work.start u).enter i new why = Work.start (u.enter i new why) := by
  simp [Work.enter, Work.hand, Work.on, Work.start, hh]

/-- The cool-down ends with the slot queued, nothing handed over, and the arbiter's turn (R49, R70). -/
theorem coolDownEnds_start (s : State) (i : SlotId) :
    ((Work.start s).on (State.modRecord i fun r => { r with phaseTimer := none })).coolDownEnds i =
      (Work.start (cooled i s)).arbiter := by
  have hoff := handsOver_off i .queued (((s.modRecord i fun r => { r with phaseTimer := none }).giveStamp i).slot i)
    rfl rfl (.inl rfl)
  show ((Work.start ((s.modRecord i fun r => { r with phaseTimer := none }).giveStamp i)).enter i .queued
    none).arbiter = _
  rw [enter_start _ i _ _ hoff]
  rfl

/-- A queue of one slot with a free permit: the arbiter moves it to CHARGING (R45, R72). -/
theorem arbiter_single (w : Work) (i : SlotId) (hq : w.st.power.permitQueue = [i]) (hst : w.st.stateOf i = .queued)
    (hfree : w.st.power.freeze = false) (hsup : w.st.shelf.supplyAsserted = false)
    (hperm : w.st.power.holders.length < w.st.settings.permitLimit) (hprio : (w.st.recordOf i).policy.priority ≠ 0) :
    w.arbiter = w.enter i .charging none := by
  have hnext : w.st.nextPermit = some i := by
    simp [State.nextPermit, hq, hfree, hsup, hperm, hprio]
  simp [Work.arbiter, arbitrate, hq, hnext, Work.grantPermit, hst]

/-- Settles O35: the slot is queued with its new stamp, and the arbiter then finds no permit or moves it alone. -/
theorem coolDownEndsInTheQueue : Obligations.CoolDownEndsInTheQueue := by
  intro s i p hrun hphase hpower hstamp
  have hst : s.stateOf i = .cooling := hphase.1
  have htaken : exec (.coolDownExpiry i) s =
      .next (s.run fun w => (w.on (State.modRecord i fun r => { r with phaseTimer := none })).coolDownEnds i) :=
    congrArg _ (phaseExpiry_taken s i .cooling _ hrun hphase)
  have hqueued : (cooled i s).stateOf i = .queued := by rw [stateOf_eq, cooled_recordOf]
  have hlist := cooled_power s i
  refine ⟨fun hfreeze => ⟨cooled i s, ?_, hqueued, ?_, ?_, ?_, ?_, enter_shows_off _ i .queued none rfl rfl, ?_, ?_, ?_,
    ?_, rfl, onlySlot_cooled s i⟩, fun b hfreeze hsup hperm hempty hprio hflt hid => ?_⟩
  · have harb : (Work.start (cooled i s)).arbiter = Work.start (cooled i s) :=
      arbiter_none _ (nextPermit_none _ (.inl (by rw [start_st, hlist]; exact hfreeze)))
    rw [htaken, run_done _ _ (by rw [coolDownEnds_start s i, harb]; rfl), coolDownEnds_start s i, harb]
    rfl
  · simp [cooled_recordOf]
  · simp [cooled_recordOf, hpower]
  · rw [hlist]; exact nextStamp_eq _ hstamp
  · simp [cooled_recordOf]
  · simp [hlist]
  · simp [hlist, without_insertSlot]
    simp [without]
  · rw [hlist]
  · simp [KeepsRecord, cooled_recordOf]
  · have hlines : ((cooled i s).slot i).lines = (s.slot i).lines := by
      simp [cooled, State.giveStamp, Slot.enter]
    have hqueue : (cooled i s).power.permitQueue = [i] := by simp [hlist, hempty, without, insertSlot]
    have hroom : (cooled i s).power.holders.length < (cooled i s).settings.permitLimit := by
      rw [hlist]
      exact lt_of_le_of_lt (List.length_filter_le _ _) hperm
    have harb : (Work.start (cooled i s)).arbiter = Work.start ((cooled i s).enter i .charging none) := by
      rw [arbiter_single (Work.start (cooled i s)) i hqueue hqueued (by rw [start_st, hlist]; exact hfreeze) hsup hroom
        (by simpa [cooled_recordOf])]
      exact enter_start _ i _ _ (handsOver_nil i _ _ (.inl (by rw [hlines]; exact hflt)) (.inl rfl))
    refine ⟨(cooled i s).enter i .charging none, ?_, ?_, ?_, ?_, ?_, ?_, ?_, ?_, ?_, rfl,
      OnlySlot.trans (onlySlot_cooled s i) (onlySlot_enter _ i _ _)⟩
    case refine_1 =>
      rw [htaken, run_done _ _ (by rw [coolDownEnds_start s i, harb]; rfl), coolDownEnds_start s i, harb]
      rfl
    case refine_6 =>
      have h := enter_shows (cooled i s) i .charging none
      have hcode : ilimCode .charging ((cooled i s).recordOf i) =
          min (s.recordOf i).policy.inrushLimit b.inrushClass := by
        simp [ilimCode, SlotState.preEnOn, cooled_recordOf, hid]
      rwa [hcode] at h
    all_goals simp [cooled_recordOf, SlotRecord.enter, phaseDuration, powerAfter, SlotState.releasesGrant,
      SlotState.preEnOn, SlotState.clearsRetries, hpower, PowerAccounts.follow, PowerAccounts.releaseGrant, hlist,
      hempty, without, insertSlot]

end Sys2Proof.SlotLines
end

section
/-! The back-off of the permit holders (R76, R77), as SUPPLY_LOW and a fault storm ask for it. -/

namespace Sys2Proof.SlotLines

open Sys2Proof Sys2Proof.Machine Sys2Proof.Laws Sys2Proof.Safety

/-- Of the slots listed those in CHARGING have been backed off to QUEUED, and nothing else has changed (R77). -/
structure BackedOff (l : List SlotId) (s t : State) : Prop where
  slot : ∀ j : SlotId, t.slot j =
    if j ∈ l ∧ s.stateOf j = .charging then Slot.enter s.settings .queued none (s.slot j) else s.slot j
  holders : ∀ j : SlotId, j ∈ t.power.holders ↔ j ∈ s.power.holders ∧ ¬ (j ∈ l ∧ s.stateOf j = .charging)
  queue : ∀ j : SlotId, j ∈ t.power.permitQueue ↔ j ∈ s.power.permitQueue ∨ (j ∈ l ∧ s.stateOf j = .charging)
  waits : (∀ j : SlotId, s.stateOf j = .charging → j ∉ s.power.waitList) → t.power.waitList = s.power.waitList
  sum : t.power.sumOfGrants = s.power.sumOfGrants
  freeze : t.power.freeze = s.power.freeze
  shelf : SameShelf s t
  links : t.links = s.links
  attention : t.attention = s.attention

theorem sameShelf_refl (s : State) : SameShelf s s := ⟨rfl, rfl, rfl, rfl, rfl, rfl, rfl, rfl, rfl⟩

theorem BackedOff.nil (s : State) : BackedOff [] s s where
  slot j := by simp
  holders j := by simp
  queue j := by simp
  waits _ := rfl
  sum := rfl
  freeze := rfl
  shelf := sameShelf_refl s
  links := rfl
  attention := rfl

/-- The back-off of one slot in CHARGING. -/
theorem backedOff_enter (s : State) (i : SlotId) (hc : s.stateOf i = .charging) :
    BackedOff [i] s (s.enter i .queued none) where
  slot j := by
    rw [enter_slot]
    by_cases h : j = i
    · simp [h, hc]
    · simp [h]
  holders j := by
    rw [(enter_mem s i j .queued none).2.2]
    by_cases h : j = i
    · simp [h, hc]
    · simp [h]
  queue j := by
    rw [(enter_mem s i j .queued none).2.1]
    by_cases h : j = i
    · simp [h, hc]
    · simp [h]
  waits hw := without_absent i _ (hw i hc)
  sum := rfl
  freeze := rfl
  shelf := sameShelf_refl s
  links := rfl
  attention := rfl

/-- The state of a slot after a back-off. -/
theorem BackedOff.stateOf {l : List SlotId} {s t : State} (h : BackedOff l s t) (j : SlotId) :
    t.stateOf j = if j ∈ l ∧ s.stateOf j = .charging then .queued else s.stateOf j := by
  rw [stateOf_eq, recordOf_eq, h.slot j]
  split <;> rfl

/-- One back-off, then others. -/
theorem BackedOff.trans {l : List SlotId} {i : SlotId} {s t u : State} (h : BackedOff [i] s t) (k : BackedOff l t u) :
    BackedOff (i :: l) s u := by
  have hcharging : ∀ j : SlotId, t.stateOf j = .charging ↔ s.stateOf j = .charging ∧ j ≠ i := by
    intro j
    rw [h.stateOf j]
    split
    · rename_i hj; simp [List.mem_singleton.1 hj.1]
    · rename_i hj
      exact ⟨fun hc => ⟨hc, fun e => hj ⟨by simp [e], hc⟩⟩, And.left⟩
  constructor
  case slot =>
    intro j
    rw [k.slot j, h.slot j]
    simp only [hcharging, h.shelf.1, List.mem_cons]
    by_cases hj : j = i <;> simp [hj]
  case holders =>
    intro j
    rw [k.holders j, h.holders j, hcharging j]
    by_cases hj : j = i <;> simp [hj]
  case queue =>
    intro j
    rw [k.queue j, h.queue j, hcharging j]
    by_cases hj : j = i <;> simp [hj]
  case waits =>
    intro hw
    have hwt := h.waits hw
    rw [k.waits (fun j hj => by rw [hwt]; exact hw j ((hcharging j).1 hj).1), hwt]
  case sum => rw [k.sum, h.sum]
  case freeze => rw [k.freeze, h.freeze]
  case shelf => exact SameShelf.trans h.shelf k.shelf
  case links => rw [k.links, h.links]
  case attention => rw [k.attention, h.attention]

/-- A walk of back-offs hands nothing over. -/
theorem backOffs_spec : ∀ (l : List SlotId) (w : Work),
    BackedOff l w.st (l.foldl (fun v i => v.backOff i) w).st ∧ (l.foldl (fun v i => v.backOff i) w).todo = w.todo
  | [], w => ⟨.nil w.st, rfl⟩
  | i :: l, w => by
    obtain ⟨hrest, htodo⟩ := backOffs_spec l (w.backOff i)
    have hone : BackedOff [i] w.st (w.backOff i).st ∧ (w.backOff i).todo = w.todo := by
      unfold Work.backOff
      split
      · rename_i hc
        refine ⟨backedOff_enter w.st i hc, ?_⟩
        rw [work_enter_todo, handsOver_off i .queued _ rfl rfl (.inl rfl), List.append_nil]
      · rename_i hc
        refine ⟨⟨fun j => ?_, fun j => ?_, fun j => ?_, fun _ => rfl, rfl, rfl, sameShelf_refl _, rfl, rfl⟩, rfl⟩
        all_goals
          have hno : ¬ (j ∈ [i] ∧ w.st.stateOf j = .charging) := fun ⟨hj, hcj⟩ => hc (List.mem_singleton.1 hj ▸ hcj)
          simp only [hno, if_false, not_false_iff, and_true, or_false]
    exact ⟨hone.1.trans hrest, htodo.trans hone.2⟩

/-- The back-off of every permit holder: where the holders are the slots in CHARGING, none is left. -/
theorem backOffAll_spec (w : Work) :
    BackedOff w.st.power.holders w.st w.backOffAll.st ∧ w.backOffAll.todo = w.todo := backOffs_spec _ w

/-- What a slot in CHARGING is after its back-off: queued with its grant, its stamp and its retries kept (R77). -/
theorem BackedOff.charging {l : List SlotId} {s t : State} (h : BackedOff l s t) {j : SlotId} (hl : j ∈ l)
    (hc : s.stateOf j = .charging) :
    t.stateOf j = .queued ∧ j ∈ t.power.permitQueue ∧ Shows j false false 0 .off t ∧
      (t.recordOf j).phaseTimer = none ∧ (t.recordOf j).retriesUsed = (s.recordOf j).retriesUsed ∧
      (t.recordOf j).power = (s.recordOf j).power.map fun p => { p with permitHeld := false } := by
  have hslot : t.slot j = (s.enter j .queued none).slot j := by
    rw [h.slot j, if_pos ⟨hl, hc⟩, enter_slot, if_pos rfl]
  refine ⟨by rw [h.stateOf j, if_pos ⟨hl, hc⟩], (h.queue j).2 (.inr ⟨hl, hc⟩),
    shows_congr (congrArg Slot.out hslot) (enter_shows_off s j .queued none rfl rfl), ?_, ?_, ?_⟩
  all_goals
    rw [recordOf_eq t, hslot, ← recordOf_eq, enter_recordOf, if_pos rfl]
    rfl

/-! ### The supply alarm -/

/-- The holders of permits are exactly the slots in CHARGING, so a back-off of all leaves none. -/
theorem backOffAll_holders {s t : State} (hl : ListsFollow s) (h : BackedOff s.power.holders s t) :
    t.power.holders = [] := by
  rw [List.eq_nil_iff_forall_not_mem]
  intro j hj
  obtain ⟨hold, hno⟩ := (h.holders j).1 hj
  exact hno ⟨hold, ((hl.2.2.2 j).2.2).1 hold⟩

/-- A waiting slot does not charge. -/
theorem charging_not_waiting {s : State} (hl : ListsFollow s) (j : SlotId) (hc : s.stateOf j = .charging) :
    j ∉ s.power.waitList := fun h => by
  have := ((hl.2.2.2 j).1).1 h
  rw [hc] at this
  exact absurd this (by decide)

/-- A posting is the only one of its step. -/
theorem onlyPosted_post (s : State) (k : EventKey) (d : Detail) : OnlyPosted k d s (s.post k d) :=
  ⟨by simp, fun k' hk => by simp [hk], by simp, post_lines s k d⟩

theorem onlyPosted_congr {k : EventKey} {d : Detail} {s s' t : State} (h : s'.attention = s.attention)
    (hp : OnlyPosted k d s' t) : OnlyPosted k d s t := by
  rwa [OnlyPosted, h] at hp

/-- Settles O31: a new alarm is the back-off of every holder with its posting, an ended one finds no slot to let on. -/
theorem supplyLowBacksOffCharging : Obligations.SupplyLowBacksOffCharging := by
  intro s hrun ht hl
  have htaken : exec .supplyLowSettleExpiry s =
      .next (s.run fun w => (w.on (State.modShelf fun v => { v with supplySettle := none })).supplySettled) :=
    congrArg _ (expiry_taken s _ _ ht hrun)
  refine ⟨fun hsame => ?_, fun hhigh hclear => ?_, fun hlow hset hq => ?_⟩
  · have hw : ∀ w : Work, w.st = s → (w.on (State.modShelf fun v => { v with supplySettle := none })).supplySettled =
        w.on (State.modShelf fun v => { v with supplySettle := none }) := by
      rintro w rfl
      exact if_pos hsame
    rw [htaken, run_done _ _ (by rw [hw _ rfl]; rfl), hw _ rfl]
    rfl
  · let u := s.modShelf fun v => { v with supplySettle := none, supplyAsserted := true }
    have hw : ((Work.start s).on (State.modShelf fun v => { v with supplySettle := none })).supplySettled =
        (Work.start u).backOffAll.on (State.postShelf .supply (.supply false)) := by
      simp [Work.supplySettled, hhigh, hclear]
      rfl
    obtain ⟨hback, htodo⟩ := backOffAll_spec (Work.start u)
    have hlu : ListsFollow u := hl
    refine ⟨(Work.start u).backOffAll.st.postShelf .supply (.supply false), ?_, hback.shelf.2.2.2.2.2.2.1,
      backOffAll_holders (t := (Work.start u).backOffAll.st) hlu hback, fun i hc => ?_, fun i hc => ?_, ?_, hback.links,
      hback.shelf.1, hback.shelf.2.1,
      hback.waits (charging_not_waiting hlu), hback.freeze⟩
    · rw [htaken, run_done _ _ (by rw [hw]; exact htodo), hw]
      rfl
    · obtain ⟨hstate, hqueue, hshows, hphase, hretries, hpower⟩ :=
        hback.charging (((hl.2.2.2 i).2.2).2 hc) hc
      exact ⟨hstate, hqueue, hphase, hshows, ⟨hpower, hback.sum⟩, hretries⟩
    · exact (hback.slot i).trans (if_neg fun h => hc h.2)
    · exact onlyPosted_congr hback.attention (onlyPosted_post _ _ _)
  · let u := (s.modShelf fun v => { v with supplySettle := none, supplyAsserted := false }).postShelf .supply
      (.supply true)
    have hw : ((Work.start s).on (State.modShelf fun v => { v with supplySettle := none })).supplySettled =
        Work.start u := by
      have harb : (Work.start u).arbiter = Work.start u := by simp [Work.arbiter, u, hq, arbitrate]
      rw [← harb]
      simp [Work.supplySettled, hlow, hset]
      rfl
    refine ⟨u, ?_, rfl, onlyPosted_post _ _ _, rfl, rfl, rfl, rfl, rfl⟩
    rw [htaken, run_done _ _ (by rw [hw]; rfl), hw]
    rfl

end Sys2Proof.SlotLines
end

section
/-! The filtered handle meaning (R23) and the handle closed event: the grant it asks for (R42, R67), the way back from
VACANT_READY (R58), and the request it withdraws (R114, R116, R148). -/

namespace Sys2Proof.SlotLines

open Sys2Proof Sys2Proof.Machine Sys2Proof.Laws Sys2Proof.Safety

/-! ### Grant requests while the arbiter gives nothing -/

/-- The state a grant request leaves while the arbiter gives nothing (R67). -/
def requested (i : SlotId) (s : State) : State :=
  if (s.openRequest i).requestFits i then ((s.openRequest i).reserve i).enter i .queued none
  else (s.openRequest i).enter i .budgetWait none

theorem onlySlot_requested (s : State) (i : SlotId) : OnlySlot i s (requested i s) := by
  unfold requested
  split
  · exact OnlySlot.trans (onlySlot_openRequest s i) (OnlySlot.trans
      (OnlySlot.trans (onlySlot_modSlot _ i _) (onlySlot_modPower _ i _)) (onlySlot_enter _ i _ _))
  · exact OnlySlot.trans (onlySlot_openRequest s i) (onlySlot_enter _ i _ _)

/-- A grant request under a freeze moves the slot and hands nothing over. -/
theorem requestGrant_start (s : State) (i : SlotId) (hf : s.power.freeze = true) :
    (Work.start s).requestGrant i = Work.start (requested i s) := by
  unfold requested
  rcases requestGrant_cases i (Work.start s) with ⟨hfits, h⟩ | ⟨hfits, h⟩
  · rw [start_st] at hfits
    rw [h, if_pos hfits]
    have hmove := enter_start ((s.openRequest i).reserve i) i .queued none (handsOver_off i _ _ rfl rfl (.inl rfl))
    show ((Work.start ((s.openRequest i).reserve i)).enter i .queued none).arbiter = _
    rw [hmove]
    exact arbiter_none _ (nextPermit_none _ (.inl hf))
  · rw [start_st] at hfits
    rw [h, if_neg (by simp [hfits])]
    exact enter_start (s.openRequest i) i .budgetWait none (handsOver_off i _ _ rfl rfl (.inl rfl))

/-- The record of a slot that has opened a request (R67). -/
theorem openRequest_recordOf (s : State) (i : SlotId) :
    (s.openRequest i).recordOf i =
      { s.recordOf i with
        floorApplied := (s.grantNow i).2
        power := some { grant := min (s.grantNow i).1 Config.grantMax, reserved := false
                        joinStamp := some s.power.stampCounter, permitHeld := false } } := by
  rw [State.openRequest, (giveStamp_spec _ i i).1]
  simp

theorem openRequest_power (s : State) (i : SlotId) :
    (s.openRequest i).power = { s.power with stampCounter := nextStamp s.power.stampCounter } :=
  (giveStamp_spec _ i i).2.1

theorem openRequest_grantOf (s : State) (i : SlotId) :
    (s.openRequest i).grantOf i = min (s.grantNow i).1 Config.grantMax := by
  rw [State.grantOf, openRequest_recordOf]

/-- The test of the request (R67 step 4). -/
theorem requestFits_iff (s : State) (i : SlotId) :
    (s.openRequest i).requestFits i = true ↔
      s.power.sumOfGrants + min (s.grantNow i).1 Config.grantMax ≤ s.settings.budget ∧ s.power.deficit = false ∧
        s.power.waitList = [] := by
  have hset : (s.openRequest i).settings = s.settings := (onlySlot_openRequest s i).2.1.1
  simp only [State.requestFits, State.headFits, openRequest_power, openRequest_grantOf, hset, Bool.and_eq_true,
    Bool.not_eq_true', decide_eq_true_eq, List.isEmpty_iff]
  tauto

/-- A request leaves the flags that admitted the slot. -/
theorem requested_recordOf (s : State) (i : SlotId) :
    ((requested i s).recordOf i).handleClosed = (s.recordOf i).handleClosed ∧
      ((requested i s).recordOf i).approved = (s.recordOf i).approved ∧
      ((requested i s).recordOf i).identity = (s.recordOf i).identity := by
  unfold requested
  split <;> rw [enter_recordOf, if_pos rfl]
  · rw [(reserve_spec _ i i).1, if_pos rfl, openRequest_recordOf]
    simp [SlotRecord.enter, SlotState.clearsApproved, discardsIdentity]
  · rw [openRequest_recordOf]
    simp [SlotRecord.enter, SlotState.clearsApproved, discardsIdentity]

theorem requested_attention (s : State) (i : SlotId) : (requested i s).attention = s.attention := by
  unfold requested
  split <;> rfl

/-- The request is answered as R67 says. -/
theorem requested_asked (s : State) (i : SlotId) (hc : s.power.stampCounter ≤ 4294967295) :
    GrantAsked i (min 1000 (s.grantNow i).1) s (requested i s) := by
  have hmin : min (s.grantNow i).1 Config.grantMax = min 1000 (s.grantNow i).1 := Nat.min_comm _ _
  have hfits := requestFits_iff s i
  rw [hmin] at hfits
  have hstamp := nextStamp_eq s.power.stampCounter hc
  unfold requested GrantAsked
  by_cases h : (s.openRequest i).requestFits i = true
  · obtain ⟨hsum, hdef, hwait⟩ := hfits.1 h
    rw [if_pos h, if_pos (hfits.1 h)]
    refine ⟨?_, ?_, ?_, enter_shows_off _ i .queued none rfl rfl, ?_, ?_, ?_, ?_, ?_, ?_⟩
    all_goals simp [(reserve_spec _ i i).1, (reserve_spec _ i i).2.1, openRequest_recordOf, openRequest_power,
      openRequest_grantOf, hmin, hwait, hstamp, SlotRecord.enter, phaseDuration, discardsIdentity, powerAfter,
      SlotState.releasesGrant, SlotState.preEnOn, PowerAccounts.follow, PowerAccounts.releaseGrant, without]
  · rw [if_neg h, if_neg fun hn => h (hfits.2 hn)]
    refine ⟨?_, ?_, ?_, enter_shows_off _ i .budgetWait none rfl rfl, ?_, ?_, ?_, ?_, ?_, ?_⟩
    case refine_7 =>
      simp only [enter_power, PowerAccounts.follow, PowerAccounts.releaseGrant, openRequest_power, if_true,
        without_insertSlot]
      simp [without]
    all_goals simp [openRequest_recordOf, openRequest_power, hmin, hstamp, SlotRecord.enter, phaseDuration,
      discardsIdentity, powerAfter, SlotState.releasesGrant, SlotState.preEnOn, PowerAccounts.follow,
      PowerAccounts.releaseGrant]

/-- What a request's answer reads of the state it was made in. -/
theorem grantAsked_congr {i : SlotId} {g : Nat} {s u t : State} (hg : u.grantNow i = s.grantNow i)
    (hid : (u.recordOf i).identity = (s.recordOf i).identity) (hset : u.settings = s.settings)
    (hsum : u.power.sumOfGrants = s.power.sumOfGrants) (hdef : u.power.deficit = s.power.deficit)
    (hwait : u.power.waitList = s.power.waitList) (hstamp : u.power.stampCounter = s.power.stampCounter)
    (h : GrantAsked i g u t) : GrantAsked i g s t := by
  rwa [GrantAsked, hg, hid, hset, hsum, hdef, hwait, hstamp] at h

theorem grantNow_congr {i : SlotId} {s u : State} (hid : (u.recordOf i).identity = (s.recordOf i).identity)
    (hset : u.settings = s.settings) : u.grantNow i = s.grantNow i := by
  simp [State.grantNow, hid, hset]

/-! ### The handle's settle period -/

/-- The filtered meaning of the handle written, its settle period over (R23). -/
def flagged (i : SlotId) (closed : Bool) (s : State) : State :=
  s.modSlot i fun x =>
    { x with record := { x.record with handleClosed := closed }, cond := { x.cond with handle := none } }

theorem flagged_slot (s : State) (i : SlotId) (closed : Bool) :
    (flagged i closed s).slot i =
      { s.slot i with
        record := { s.recordOf i with handleClosed := closed }, cond := { (s.slot i).cond with handle := none } } := by
  simp [flagged, State.recordOf]

theorem flagged_recordOf (s : State) (i : SlotId) (closed : Bool) :
    (flagged i closed s).recordOf i = { s.recordOf i with handleClosed := closed } := by
  rw [recordOf_eq, flagged_slot]

theorem flagged_stateOf (s : State) (i : SlotId) (closed : Bool) : (flagged i closed s).stateOf i = s.stateOf i := by
  rw [stateOf_eq, flagged_recordOf]; rfl

theorem onlySlot_flagged (s : State) (i : SlotId) (closed : Bool) : OnlySlot i s (flagged i closed s) :=
  onlySlot_modSlot s i _

/-- A settle period that ends with the meaning the flag has already is no event (R23). -/
theorem handleSettle_same (s : State) (i : SlotId) (hrun : Running s) (ht : (s.slot i).cond.handle.isSome = true)
    (h : handleMeansClosed (s.recordOf i).policy.openPolarity (s.slot i).lines.hdl = (s.recordOf i).handleClosed) :
    exec (.handleSettleExpiry i) s = .next (s.modCond i fun c => { c with handle := none }) := by
  have hw : ((Work.start s).on (State.modCond i fun c => { c with handle := none })).handleSettled i =
      (Work.start s).on (State.modCond i fun c => { c with handle := none }) := by
    simp [Work.handleSettled, h]
  refine congrArg _ ((expiry_taken s _ _ ht hrun).trans ?_)
  rw [run_done _ _ (by rw [hw]; rfl), hw]
  rfl

/-- A settle period that ends with another meaning sets the flag and is a handle event (R23). -/
theorem handleSettle_changed (s : State) (i : SlotId) (closed : Bool) (hrun : Running s)
    (ht : (s.slot i).cond.handle.isSome = true)
    (hc : handleMeansClosed (s.recordOf i).policy.openPolarity (s.slot i).lines.hdl = closed)
    (hf : (s.recordOf i).handleClosed = !closed) :
    ∃ f : Work → Work, exec (.handleSettleExpiry i) s = .next (s.run f) ∧
      f (Work.start s) =
        if closed then (Work.start (flagged i true s)).handleClosed i
        else (Work.start (flagged i false s)).handleOpened i := by
  refine ⟨_, congrArg _ (expiry_taken s _ _ ht hrun), ?_⟩
  have hflag : ((Work.start s).on (State.modCond i fun c => { c with handle := none })).on
      (State.modRecord i fun r => { r with handleClosed := closed }) = Work.start (flagged i closed s) := by
    simp only [Work.on, Work.start, flagged]
    exact congrArg (Work.mk · []) (modSlot_modSlot s i _ _)
  have hne : closed ≠ (s.recordOf i).handleClosed := by rw [hf]; cases closed <;> decide
  simp only [Work.handleSettled, on_st, start_st, modCond_recordOf, modCond_slot, if_true, hc, if_neg hne, hflag]
  cases closed <;> rfl

/-! ### What a handle event does -/

/-- A handle closed event in a state that only keeps the flag (R23). -/
theorem handleClosed_flag (i : SlotId) (w : Work) (h1 : w.st.stateOf i ≠ .identified)
    (h2 : w.st.stateOf i ≠ .vacantReady)
    (h3 : w.st.stateOf i = .retirePending → (w.st.recordOf i).batchMember = true) : w.handleClosed i = w := by
  unfold Work.handleClosed
  split
  · rename_i h; exact absurd h h1
  · rename_i h; exact absurd h h2
  · rename_i h; rw [if_pos (h3 h)]
  · rfl

/-- A handle opened event in a state that only keeps the flag (R23). -/
theorem handleOpened_flag (i : SlotId) (w : Work)
    (h : w.st.stateOf i ∉ [SlotState.budgetWait, .queued, .charging, .cooling, .stabilizing, .powered, .inService]) :
    w.handleOpened i = w := by
  unfold Work.handleOpened
  split
  case h_8 => rfl
  all_goals rename_i hst; exact absurd (by simp [hst]) h

/-- A slot is admissible by its state, its handle and its approval (R42). -/
theorem admissible_iff (s : State) (i : SlotId) :
    s.admissible i = true ↔ s.stateOf i = .identified ∧ (s.recordOf i).handleClosed = true ∧
      ((s.recordOf i).policy.admitMode = .auto ∨ (s.recordOf i).approved = true) := by
  simp [State.admissible, and_assoc]

/-- The test of the admission condition under a freeze (R42, R67). -/
theorem testAdmission_start (s : State) (i : SlotId) (hf : s.admissible i = true → s.power.freeze = true) :
    (Work.start s).testAdmission i = Work.start (if s.admissible i = true then requested i s else s) := by
  rcases testAdmission_cases i (Work.start s) with ⟨ha, h⟩ | ⟨ha, h⟩ <;> rw [start_st] at ha
  · rw [h, if_pos ha, requestGrant_start s i (hf ha)]
  · rw [h, if_neg (by simp [ha])]

/-- A slot without a power part in a state that neither waits nor charges goes to IDENTIFIED with its posting (R41), and
its admission is tested. -/
def identifiedFrom (i : SlotId) (left : SlotState) (s : State) : State :=
  (s.enter i .identified none).postSlot i .identified (.leftState left)

theorem toIdentified_start (s : State) (i : SlotId) (left : SlotState) (hst : s.stateOf i = left)
    (hp : (s.recordOf i).power = none) (hb : left ≠ .budgetWait) (hc : left ≠ .charging) :
    (Work.start s).toIdentified i = (Work.start (identifiedFrom i left s)).testAdmission i := by
  subst hst
  rw [Work.toIdentified, move_still i .identified none _ (.inr hp) hb hc,
    enter_start s i _ _ (handsOver_off i _ _ rfl rfl (.inl rfl))]
  rfl

/-! ### A posting and what follows it in the same step -/

theorem attnLevel_congr {s t : State} (ha : t.attention = s.attention) (hA : t.portA = s.portA) (hB : t.portB = s.portB)
    (l : Link) : attnLevel t l = attnLevel s l := by
  have hp : t.port l = s.port l := by cases l <;> assumption
  simp only [attnLevel, State.anyActive, ha, hA, hB, hp]
  rfl

/-- What follows a posting without touching an entry or a port leaves it the only one. -/
theorem onlyPosted_trans {k : EventKey} {d : Detail} {s t u : State} (h : OnlyPosted k d s t)
    (ha : u.attention = t.attention) (hs : SameShelf t u) : OnlyPosted k d s u := by
  obtain ⟨hk, hother, hlevels, hattnA, hattnB⟩ := h
  obtain ⟨_, _, hA, hB, _⟩ := hs
  rw [OnlyPosted, attnLevel_congr ha hA hB, attnLevel_congr ha hA hB, ha]
  exact ⟨hk, hother, hlevels, hattnA, hattnB⟩

end Sys2Proof.SlotLines
end

section
/-! A request withdrawn by a closed handle (R114, R116), and the statement on the handle closed event. -/

namespace Sys2Proof.SlotLines

open Sys2Proof Sys2Proof.Machine Sys2Proof.Laws Sys2Proof.Safety

/-! ### What the other slots keep -/

theorem OthersKeep.of_only {i : SlotId} {s t : State} (h : OtherSlots i s t) : OthersKeep i s t := by
  intro j hj
  simp only [State.recordOf, h j hj, and_self]

theorem OthersKeep.of_lanes {s t : State} (i : SlotId) (h : SameButLanes s t) : OthersKeep i s t := by
  intro j _
  obtain ⟨hr, hl, hc, hp, hm, hi, hled, _, _⟩ := h.1 j
  exact ⟨hr, hl, hc, hp, hm, hi, hled⟩

theorem OthersKeep.trans {i : SlotId} {s t u : State} (h : OthersKeep i s t) (k : OthersKeep i t u) :
    OthersKeep i s u := by
  intro j hj
  obtain ⟨a1, a2, a3, a4, a5, a6, a7⟩ := h j hj
  obtain ⟨b1, b2, b3, b4, b5, b6, b7⟩ := k j hj
  exact ⟨b1.trans a1, b2.trans a2, b3.trans a3, b4.trans a4, b5.trans a5, b6.trans a6, b7.trans a7⟩

theorem sameShelf_of_lanes {s t : State} (h : SameButLanes s t) : SameShelf s t := by
  obtain ⟨_, h1, _, h2, _, h3, h4, h5, h6, h7, h8, h9⟩ := h
  exact ⟨h1, h2, h3, h4, h5, h6, h7, h8, h9⟩

theorem attention_of_lanes {s t : State} (h : SameButLanes s t) : t.attention = s.attention := h.2.2.2.2.1

theorem power_of_lanes {s t : State} (h : SameButLanes s t) : t.power = s.power := h.2.2.1

theorem recordOf_of_lanes {s t : State} (h : SameButLanes s t) (j : SlotId) : t.recordOf j = s.recordOf j := (h.1 j).1

theorem stateOf_of_lanes {s t : State} (h : SameButLanes s t) (j : SlotId) : t.stateOf j = s.stateOf j := by
  rw [stateOf_eq, recordOf_of_lanes h, stateOf_eq]

/-! ### Cues -/

/-- A decision cue that is offered goes to the queue, whatever stands in it: none of its pairs vanishes (R91). -/
theorem placeCue_denied (q : List Cue) :
    Cue.retireDenied ∈ (placeCue .retireDenied q).1 ∧ (placeCue .retireDenied q).2 = .nothing := by
  have hnone : ∀ old : Cue, vanish old .retireDenied = none := by intro old; cases old <;> rfl
  unfold placeCue
  split
  · simp
  · simp [hnone]

/-- A queued cue is still on its way after the engine has chosen its next work (R83). -/
theorem choose_keepsCue (c : Channel) (cue : Cue) (h : cue ∈ c.cueQueue) :
    c.choose.transfer.map (·.kind) = some (.cueWrite cue) ∨ cue ∈ c.choose.cueQueue := by
  have hbegin : c.beginCue.transfer.map (·.kind) = some (.cueWrite cue) ∨ cue ∈ c.beginCue.cueQueue := by
    unfold Channel.beginCue
    split
    · exact .inr h
    · rename_i first rest hq
      rw [hq] at h
      rcases List.mem_cons.1 h with rfl | h
      · exact .inl rfl
      · exact .inr h
  unfold Channel.choose
  split
  · exact .inr h
  · split
    · exact .inr h
    · split
      · split
        · exact .inr h
        · exact hbegin
      · split
        · exact .inr h
        · exact hbegin

theorem offer_denied (s : State) (i : SlotId) (h : (s.stateOf i).conversing = true) :
    CueOnWay i .retireDenied (s.offer i .retireDenied) := by
  obtain ⟨hmem, hrep⟩ := placeCue_denied (s.slot i).chan.cueQueue
  have hoffer : s.offer i .retireDenied =
      (s.modChan i fun c => { c with cueQueue := (placeCue .retireDenied (s.slot i).chan.cueQueue).1 }).modChan i
        Channel.choose := by
    simp [State.offer, h, hrep, State.takeReport]
  rw [hoffer, CueOnWay, modChan_slot, if_pos rfl]
  exact choose_keepsCue _ _ (by simpa using hmem)

/-! ### The return to the prior state -/

/-- A slot goes back to a state it can be in service in, its lanes evaluated where it is in service (R116). -/
theorem returnToPrior_eq (i : SlotId) (w : Work) (prior : ReturnState) (hst : w.st.stateOf i = .retirePending)
    (hp : (w.st.recordOf i).priorState = some prior) :
    w.returnToPrior i =
      (w.enter i prior.toState none).on fun s => if prior = .inService then s.considerJoins i else s := by
  have hmove : ∀ new : SlotState, new.releasesGrant = false → w.move i new none = w.enter i new none :=
    fun new hr => move_still i new none w (.inl hr) (by simp [hst]) (by simp [hst])
  unfold Work.returnToPrior Work.toInService
  rw [hp]
  cases prior with
  | powered => exact hmove _ rfl
  | inService =>
    dsimp only
    rw [hmove _ rfl]
    rfl

/-- The state a denied or withdrawn request leaves. -/
def returned (i : SlotId) (prior : ReturnState) (s : State) : State :=
  let t := (s.offer i .retireDenied).enter i prior.toState none
  if prior = .inService then t.considerJoins i else t

theorem returned_lanes (s : State) (i : SlotId) (prior : ReturnState) :
    SameButLanes ((s.offer i .retireDenied).enter i prior.toState none) (returned i prior s) := by
  unfold returned
  dsimp only
  split
  · exact considerJoins_same _ i
  · exact .refl _

/-- A slot that drives MAIN_EN keeps it where the new state drives it: nothing is turned ON (R24, R29). -/
theorem handsOver_powered (i : SlotId) (new : SlotState) (x : Slot) (hm : x.out.mainEn = true)
    (hp : new.preEnOn = false) (hd : new.debounces = false) : x.handsOver i new = [] :=
  handsOver_nil i new x (.inr (by simp [OutputLines.turnsOn, outputUpdate, hm, hp])) (.inl hd)

/-- A denied request is taken with nothing handed over. -/
theorem denyRequest_start (s : State) (i : SlotId) (prior : ReturnState) (hst : s.stateOf i = .retirePending)
    (hp : (s.recordOf i).priorState = some prior) (hm : (s.slot i).out.mainEn = true) :
    (Work.start s).denyRequest i = Work.start (returned i prior s) := by
  have hsame := offer_same s i .retireDenied
  obtain ⟨_, _, _, _, hmain, _⟩ := hsame.1 i
  have hen := enter_start (s.offer i .retireDenied) i prior.toState none
    (handsOver_powered i _ _ (hmain.trans hm) (by cases prior <;> rfl) (by cases prior <;> rfl))
  have hret := returnToPrior_eq i (Work.start (s.offer i .retireDenied)) prior
    ((stateOf_of_lanes hsame i).trans hst) ((congrArg SlotRecord.priorState (recordOf_of_lanes hsame i)).trans hp)
  rw [hen] at hret
  exact hret

/-- The cue is on its way after the move, which keeps the conversation (R94). -/
theorem returned_cue (s : State) (i : SlotId) (prior : ReturnState) (hst : s.stateOf i = .retirePending) :
    CueOnWay i .retireDenied (returned i prior s) := by
  have hcue := offer_denied s i (by rw [hst]; rfl)
  have hold : ((s.offer i .retireDenied).slot i).record.state = .retirePending :=
    (stateOf_of_lanes (offer_same s i .retireDenied) i).trans hst
  have hchan : ((returned i prior s).slot i).chan = ((s.offer i .retireDenied).slot i).chan := by
    have hfollow : (((s.offer i .retireDenied).enter i prior.toState none).slot i).chan =
        ((s.offer i .retireDenied).slot i).chan := by
      rw [enter_slot, if_pos rfl]
      simp only [Slot.enter, hold]
      cases prior <;> rfl
    unfold returned
    dsimp only
    split
    · rw [State.considerJoins, State.joinWhere, setLinks_slot]; exact hfollow
    · exact hfollow
  rw [CueOnWay, hchan]
  exact hcue

/-- The boot timer of a record (R8, R51). -/
theorem bootDuration_eq (r : SlotRecord) :
    bootDuration r =
      min 600 (if (r.identity.map (·.bootAllowance)).getD 0 = 0 then r.policy.bootDefault
        else (r.identity.map (·.bootAllowance)).getD 0) * 1000 := by
  unfold bootDuration Config.bootLimit
  cases r.identity <;> rfl

end Sys2Proof.SlotLines
end

section
/-! The statement on the filtered handle meaning and the handle closed event (R23, R36, R42, R57, R58, R114). -/

namespace Sys2Proof.SlotLines

open Sys2Proof Sys2Proof.Machine Sys2Proof.Laws Sys2Proof.Safety

/-! ### The step, from what the event does -/

section Settle

variable {s t : State} {i : SlotId} (hrun : Running s) (ht : (s.slot i).cond.handle.isSome = true)

include hrun ht

/-- A handle found closed, whose event hands nothing over. -/
theorem handleSettle_closed (hcl : (s.slot i).lines.hdl ≠ (s.recordOf i).policy.openPolarity)
    (hf : (s.recordOf i).handleClosed = false)
    (hw : (Work.start (flagged i true s)).handleClosed i = Work.start t) :
    exec (.handleSettleExpiry i) s = .next t := by
  obtain ⟨f, hexec, hfs⟩ := handleSettle_changed s i true hrun ht (by simpa [handleMeansClosed] using hcl) hf
  rw [if_pos rfl, hw] at hfs
  rw [hexec, run_done f s (by rw [hfs]; rfl), hfs]
  rfl

/-- A handle found open, whose event hands nothing over. -/
theorem handleSettle_opened (hop : (s.slot i).lines.hdl = (s.recordOf i).policy.openPolarity)
    (hf : (s.recordOf i).handleClosed = true)
    (hw : (Work.start (flagged i false s)).handleOpened i = Work.start t) :
    exec (.handleSettleExpiry i) s = .next t := by
  obtain ⟨f, hexec, hfs⟩ := handleSettle_changed s i false hrun ht (by simpa [handleMeansClosed] using hop) hf
  rw [if_neg (by decide), hw] at hfs
  rw [hexec, run_done f s (by rw [hfs]; rfl), hfs]
  rfl

end Settle

/-! ### The slot in its new state -/

/-- A slot in VACANT_READY with an unverified identity goes to read it (R58). -/
theorem handleClosed_identifies (s : State) (i : SlotId) (hst : s.stateOf i = .vacantReady)
    (hu : (s.recordOf i).idUnverified = true) :
    (Work.start (flagged i true s)).handleClosed i =
      Work.start (((flagged i true s).enter i .identifying none).modChan i Channel.askIdentity) := by
  have hstate := (flagged_stateOf s i true).trans hst
  have hflow : (Work.start (flagged i true s)).handleClosed i = (Work.start (flagged i true s)).toIdentifying i := by
    unfold Work.handleClosed
    rw [start_st, hstate]
    exact if_pos (by rw [flagged_recordOf]; exact hu)
  rw [hflow, toIdentifying_eq i _ (by simp [hstate]) (by simp [hstate]),
    enter_start _ i _ _ (handsOver_off i _ _ rfl rfl (.inl rfl))]
  rfl

/-- A slot in VACANT_READY with its identity kept is identified again, and its admission tested (R58, R41). -/
theorem handleClosed_identified (s : State) (i : SlotId) (hst : s.stateOf i = .vacantReady)
    (hu : (s.recordOf i).idUnverified = false) (hp : (s.recordOf i).power = none) :
    (Work.start (flagged i true s)).handleClosed i =
      (Work.start (identifiedFrom i .vacantReady (flagged i true s))).testAdmission i := by
  have hstate := (flagged_stateOf s i true).trans hst
  have hflow : (Work.start (flagged i true s)).handleClosed i = (Work.start (flagged i true s)).toIdentified i := by
    unfold Work.handleClosed
    rw [start_st, hstate]
    exact if_neg (by rw [flagged_recordOf]; simp [hu])
  rw [hflow, toIdentified_start _ i .vacantReady hstate (by rw [flagged_recordOf]; exact hp) (by decide) (by decide)]

/-- The record of a slot identified again. -/
theorem identifiedFrom_recordOf (s : State) (i : SlotId) :
    ((identifiedFrom i .vacantReady s).recordOf i).state = .identified ∧
      ((identifiedFrom i .vacantReady s).recordOf i).handleClosed = (s.recordOf i).handleClosed ∧
      ((identifiedFrom i .vacantReady s).recordOf i).approved = (s.recordOf i).approved ∧
      ((identifiedFrom i .vacantReady s).recordOf i).policy = (s.recordOf i).policy ∧
      ((identifiedFrom i .vacantReady s).recordOf i).identity = (s.recordOf i).identity ∧
      ((identifiedFrom i .vacantReady s).recordOf i).power = none := by
  have hrec : (identifiedFrom i .vacantReady s).recordOf i = (s.recordOf i).enter s.settings .identified none := by
    simp [identifiedFrom, State.postSlot, State.recordOf, Slot.enter]
  rw [hrec]
  simp [SlotRecord.enter, SlotState.clearsApproved, discardsIdentity, powerAfter, SlotState.releasesGrant]

theorem onlySlot_identifiedFrom (s : State) (i : SlotId) (left : SlotState) : OnlySlot i s (identifiedFrom i left s) :=
  OnlySlot.trans (onlySlot_enter s i _ _) (onlySlot_modEvent _ i _ _)

/-- A slot in RETIRE_PENDING that is no member has its request withdrawn and goes back (R114). -/
theorem handleClosed_returns (s : State) (i : SlotId) (prior : ReturnState) (hst : s.stateOf i = .retirePending)
    (hb : (s.recordOf i).batchMember = false) (hp : (s.recordOf i).priorState = some prior)
    (hm : (s.slot i).out.mainEn = true) :
    (Work.start (flagged i true s)).handleClosed i =
      Work.start (returned i prior ((flagged i true s).withdraw (.slot i .retireRequest))) := by
  have hslot : ∀ j, ((flagged i true s).withdraw (.slot i .retireRequest)).slot j = (flagged i true s).slot j := by
    intro j
    unfold State.withdraw
    split <;> rfl
  have hflow : (Work.start (flagged i true s)).handleClosed i =
      (Work.start ((flagged i true s).withdraw (.slot i .retireRequest))).denyRequest i := by
    unfold Work.handleClosed
    rw [start_st, flagged_stateOf, hst]
    exact if_neg (by rw [flagged_recordOf]; simp [hb])
  rw [hflow]
  refine denyRequest_start _ i prior ?_ ?_ ?_
  · rw [stateOf_eq, recordOf_eq, hslot, flagged_slot]; exact hst
  · rw [recordOf_eq, hslot, flagged_slot]; exact hp
  · rw [hslot, flagged_slot]; exact hm

theorem onlySlot_withdraw (s : State) (i : SlotId) (k : EventKey) : OnlySlot i s (s.withdraw k) := by
  unfold State.withdraw
  split
  · exact onlySlot_modEvent s i k _
  · exact OnlySlot.refl i s

theorem withdraw_power (s : State) (k : EventKey) : (s.withdraw k).power = s.power := by
  unfold State.withdraw
  split <;> rfl

theorem withdraw_recordOf (s : State) (k : EventKey) (j : SlotId) : (s.withdraw k).recordOf j = s.recordOf j := by
  unfold State.withdraw
  split <;> rfl

/-- The clause on a withdrawn request (R114, R116, R148). -/
theorem withdrawn_returns (s : State) (i : SlotId) (prior : ReturnState) :
    let t := returned i prior ((flagged i true s).withdraw (.slot i .retireRequest))
    t.stateOf i = prior.toState ∧ (t.recordOf i).priorState = none ∧ (t.recordOf i).handleClosed = true ∧
      (t.recordOf i).phaseTimer = (if prior = .powered then some (bootDuration (s.recordOf i)) else none) ∧
      KeepsGrant i s t ∧ Shows i false true 15 .off t := by
  intro t
  let v := (flagged i true s).withdraw (.slot i .retireRequest)
  let u := v.offer i .retireDenied
  have hsame : SameButLanes (u.enter i prior.toState none) t := returned_lanes v i prior
  have hoffer : SameButLanes v u := offer_same v i .retireDenied
  have hrecu : u.recordOf i = { s.recordOf i with handleClosed := true } := by
    rw [recordOf_of_lanes hoffer, withdraw_recordOf, flagged_recordOf]
  have hrect : t.recordOf i = (u.recordOf i).enter u.settings prior.toState none := by
    rw [recordOf_of_lanes hsame, enter_recordOf, if_pos rfl]
  have hpow : (u.enter i prior.toState none).power.sumOfGrants = s.power.sumOfGrants := by
    rw [enter_sum, if_neg (by cases prior <;> decide), power_of_lanes hoffer, withdraw_power]
    rfl
  have hshows := enter_shows u i prior.toState none
  rw [ilimCode_other _ _ (by cases prior <;> rfl)] at hshows
  obtain ⟨_, _, _, hpre, hmain, hilim, hled, _, _⟩ := hsame.1 i
  refine ⟨?_, ?_, ?_, ?_, ⟨?_, ?_⟩, ?_⟩
  · rw [stateOf_eq, hrect]; rfl
  · rw [hrect]; rfl
  · rw [hrect, hrecu]; rfl
  · rw [hrect, hrecu]
    cases prior <;> rfl
  · rw [hrect, hrecu]
    cases prior <;> rfl
  · rw [power_of_lanes hsame]; exact hpow
  · rw [Shows, hpre, hmain, hilim, hled]
    cases prior <;> exact hshows

/-- A withdrawn request leaves its event delivered or not pending, every other event, the other slots and the shelf. -/
theorem withdrawn_keeps (s : State) (i : SlotId) (prior : ReturnState) :
    let t := returned i prior ((flagged i true s).withdraw (.slot i .retireRequest))
    t.attention.entry (.slot i .retireRequest) =
        { s.attention.entry (.slot i .retireRequest) with
          pending := false
          repeated :=
            if (s.attention.entry (.slot i .retireRequest)).pending = true then false
            else (s.attention.entry (.slot i .retireRequest)).repeated } ∧
      (∀ k : EventKey, k ≠ .slot i .retireRequest → t.attention.entry k = s.attention.entry k) ∧
      OthersKeep i s t ∧ SameShelf s t := by
  intro t
  let v := (flagged i true s).withdraw (.slot i .retireRequest)
  let u := v.offer i .retireDenied
  have hsame : SameButLanes (u.enter i prior.toState none) t := returned_lanes v i prior
  have hoffer : SameButLanes v u := offer_same v i .retireDenied
  have hfirst : OnlySlot i s v := OnlySlot.trans (onlySlot_flagged s i true) (onlySlot_withdraw _ i _)
  have hmove := onlySlot_enter u i prior.toState none
  have hatt : t.attention = v.attention := by
    rw [attention_of_lanes hsame, enter_attention]
    exact attention_of_lanes hoffer
  have hatt0 : (flagged i true s).attention = s.attention := rfl
  have hentry := fun k => withdraw_entry (flagged i true s) (.slot i .retireRequest) k
  rw [hatt0] at hentry
  refine ⟨?_, fun k hk => ?_, ?_, ?_⟩
  · rw [hatt, hentry]
    generalize s.attention.entry (.slot i .retireRequest) = e
    obtain ⟨pending, repeated, detail⟩ := e
    cases pending <;> simp
  · rw [hatt, hentry, if_neg fun h => hk h.1]
  · exact OthersKeep.trans (OthersKeep.of_only hfirst.1) (OthersKeep.trans (OthersKeep.of_lanes i hoffer)
      (OthersKeep.trans (OthersKeep.of_only hmove.1) (OthersKeep.of_lanes i hsame)))
  · exact SameShelf.trans hfirst.2.1 (SameShelf.trans (sameShelf_of_lanes hoffer)
      (SameShelf.trans hmove.2.1 (sameShelf_of_lanes hsame)))

/-- The clause on a slot identified again (R58, R41, R42). -/
theorem identifiedFrom_spec (s : State) (i : SlotId) (hf : (s.recordOf i).handleClosed = true)
    (hp : (s.recordOf i).power = none)
    (hcase : ((s.recordOf i).policy.admitMode = .held ∧ (s.recordOf i).approved = false) ∨ s.power.freeze = true) :
    let v := identifiedFrom i .vacantReady s
    let t := if v.admissible i = true then requested i v else v
    (Work.start v).testAdmission i = Work.start t ∧ (t.recordOf i).handleClosed = true ∧
      (t.recordOf i).identity = (s.recordOf i).identity ∧ (t.recordOf i).approved = (s.recordOf i).approved ∧
      OnlyPosted (.slot i .identified) (.leftState .vacantReady) s t ∧ OnlySlot i s t ∧
      ((s.recordOf i).policy.admitMode = .held → (s.recordOf i).approved = false →
        t.stateOf i = .identified ∧ (t.recordOf i).power = none ∧ Shows i false false 0 .on t ∧
          t.power = offLists i s.power) ∧
      (∀ g : Nat, (s.recordOf i).policy.admitMode = .auto →
        s.power.stampCounter ≤ 4294967295 → i ∉ s.power.waitList → g = min 1000 (s.grantNow i).1 →
        GrantAsked i g s t) := by
  intro v t
  obtain ⟨hstate, hclosed, happ, hpol, hid, hpow⟩ := identifiedFrom_recordOf s i
  rw [hf] at hclosed
  have hv : OnlySlot i s v := onlySlot_identifiedFrom s i .vacantReady
  have hlists : v.power = offLists i s.power := enter_offLists s i .identified none (.inr hp) (by decide)
  have hposted : OnlyPosted (.slot i .identified) (.leftState .vacantReady) s v :=
    onlyPosted_congr rfl (onlyPosted_post (s.enter i .identified none) _ _)
  have hadm : v.admissible i = true ↔ (s.recordOf i).policy.admitMode = .auto ∨ (s.recordOf i).approved = true := by
    rw [admissible_iff, hpol, happ, hclosed]
    exact ⟨fun h => h.2.2, fun h => ⟨hstate, rfl, h⟩⟩
  have htest : (Work.start v).testAdmission i = Work.start t := by
    refine testAdmission_start v i fun ha => ?_
    rcases hcase with ⟨hheld, hno⟩ | hfreeze
    · rcases hadm.1 ha with h | h
      · rw [hheld] at h; exact absurd h (by decide)
      · rw [hno] at h; exact absurd h (by decide)
    · rw [hlists]; exact hfreeze
  obtain ⟨aclosed, aapp, aid⟩ := requested_recordOf v i
  refine ⟨htest, ?_, ?_, ?_, ?_, ?_, fun hheld hno => ?_, fun g hauto hstamp hi hg => ?_⟩
  case refine_1 =>
    simp only [t]
    split
    · exact aclosed.trans hclosed
    · exact hclosed
  case refine_2 =>
    simp only [t]
    split
    · exact aid.trans hid
    · exact hid
  case refine_3 =>
    simp only [t]
    split
    · exact aapp.trans happ
    · exact happ
  case refine_4 =>
    simp only [t]
    split
    · exact onlyPosted_trans hposted (requested_attention v i) (onlySlot_requested v i).2.1
    · exact hposted
  case refine_5 =>
    simp only [t]
    split
    · exact OnlySlot.trans hv (onlySlot_requested v i)
    · exact hv
  case refine_6 =>
    have hnot : ¬ v.admissible i = true := by rw [hadm, hheld, hno]; decide
    simp only [t, if_neg hnot]
    exact ⟨hstate, hpow, enter_shows_off s i .identified none rfl rfl, hlists⟩
  case refine_7 =>
    have hnow : v.grantNow i = s.grantNow i := grantNow_congr hid hv.2.1.1
    simp only [t, if_pos (hadm.2 (.inl hauto))]
    refine grantAsked_congr hnow hid hv.2.1.1 ?_ ?_ ?_ ?_ (g := g) (u := v) ?_
    case refine_5 =>
      rw [hg, ← hnow]
      exact requested_asked v i (by rw [hlists]; exact hstamp)
    all_goals rw [hlists]
    case refine_3 => exact without_absent i _ hi
    all_goals rfl

/-- Settles O29: the flag follows the settled line, and of a closed handle the three states that act on it are
followed. -/
theorem handleMeaningFollowsTheLine : Obligations.HandleMeaningFollowsTheLine := by
  intro s i hrun ht
  refine ⟨fun hsame => ?_, fun hcl hf hst => ?_, fun hop hf hst => ?_, fun hcl hf =>
    ⟨fun hkeep => ?_, fun g hst hadm hfreeze hstamp hg => ?_, fun hst hu => ?_, fun hst hu hp hcase => ?_,
      fun prior hst hb hp hout => ?_⟩⟩
  · exact handleSettle_same s i hrun ht (by rw [← hsame]; simp [handleMeansClosed, bne, ← beq_eq_decide])
  · simp only [List.mem_cons, List.not_mem_nil, or_false, not_or] at hst
    refine handleSettle_closed hrun ht hcl hf (handleClosed_flag i _ ?_ ?_ ?_)
    all_goals rw [start_st, flagged_stateOf]
    · exact hst.1
    · exact hst.2.1
    · exact fun h => absurd h hst.2.2
  · exact handleSettle_opened hrun ht hop hf (handleOpened_flag i _ (by rw [start_st, flagged_stateOf]; exact hst))
  · refine handleSettle_closed hrun ht hcl hf ?_
    rcases hkeep with ⟨hst, hheld, hno⟩ | ⟨hst, hb⟩
    · have hadm : ¬ (flagged i true s).admissible i = true := by
        rw [admissible_iff, flagged_recordOf, hheld, hno]; simp
      have htest := testAdmission_start (flagged i true s) i fun h => absurd h hadm
      rw [if_neg hadm] at htest
      unfold Work.handleClosed
      rw [start_st, flagged_stateOf, hst]
      exact htest
    · refine handleClosed_flag i _ ?_ ?_ fun _ => ?_
      · rw [start_st, flagged_stateOf, hst]; decide
      · rw [start_st, flagged_stateOf, hst]; decide
      · rw [start_st, flagged_recordOf]; exact hb
  · have hadm' : (flagged i true s).admissible i = true := by
      rw [admissible_iff, flagged_stateOf, flagged_recordOf]; exact ⟨hst, rfl, hadm⟩
    have htest := testAdmission_start (flagged i true s) i fun _ => hfreeze
    rw [if_pos hadm'] at htest
    have hnow : (flagged i true s).grantNow i = s.grantNow i := grantNow_congr (by rw [flagged_recordOf]) rfl
    have hasked := requested_asked (flagged i true s) i hstamp
    obtain ⟨hclosed, happ, hid⟩ := requested_recordOf (flagged i true s) i
    rw [flagged_recordOf] at hclosed happ
    rw [hnow, ← hg] at hasked
    refine ⟨requested i (flagged i true s), handleSettle_closed hrun ht hcl hf ?_,
      grantAsked_congr hnow (by rw [flagged_recordOf]) rfl rfl rfl rfl rfl hasked, hclosed, happ,
      requested_attention _ i, OnlySlot.trans (onlySlot_flagged s i true) (onlySlot_requested _ i)⟩
    unfold Work.handleClosed
    rw [start_st, flagged_stateOf, hst]
    exact htest
  · let u := flagged i true s
    have hstate : (u.slot i).record.state = .vacantReady := (flagged_stateOf s i true).trans hst
    have hchan : (((u.enter i .identifying none).modChan i Channel.askIdentity).slot i).chan =
        (s.slot i).chan.askIdentity := by
      rw [modChan_slot, if_pos rfl, enter_slot, if_pos rfl]
      simp only [Slot.enter, hstate]
      rw [flagged_slot]
      rfl
    obtain ⟨hdue, _, htrans⟩ := askIdentity_spec (s.slot i).chan
    have hrec : ((u.enter i .identifying none).modChan i Channel.askIdentity).recordOf i =
        (u.recordOf i).enter u.settings .identifying none := by rw [modChan_recordOf, enter_recordOf, if_pos rfl]
    have hold : (u.recordOf i).state = .vacantReady := hstate
    refine ⟨_, handleSettle_closed hrun ht hcl hf (handleClosed_identifies s i hst hu), ?_, ?_, ?_, ?_, ?_,
      shows_congr (by rw [modChan_slot, if_pos rfl]) (enter_shows_off u i .identifying none rfl rfl),
      by rw [hchan]; exact hdue,
      fun h => by rw [hchan]; exact htrans h, rfl,
      OnlySlot.trans (onlySlot_flagged s i true) (OnlySlot.trans (onlySlot_enter u i _ _) (onlySlot_modSlot _ i _)),
      enter_offLists u i _ _ (.inl rfl) (by decide)⟩
    · rw [stateOf_eq, hrec]; rfl
    · rw [hrec, flagged_recordOf]; rfl
    · rw [hrec]; simp [SlotRecord.enter, discardsIdentity, hold]
    · rw [hrec]; simp [SlotRecord.enter]
    · rw [hrec]; rfl
  · have hspec := identifiedFrom_spec (flagged i true s) i (by rw [flagged_recordOf])
      (by rw [flagged_recordOf]; exact hp)
      (by rw [flagged_recordOf]; exact hcase)
    simp only [flagged_recordOf] at hspec
    obtain ⟨htest, hclosed, hid, happ, hposted, honly, hheld, hauto⟩ := hspec
    have hnow : (flagged i true s).grantNow i = s.grantNow i := grantNow_congr (by rw [flagged_recordOf]) rfl
    refine ⟨_, handleSettle_closed hrun ht hcl hf ((handleClosed_identified s i hst hu hp).trans htest), hclosed, hid,
      happ, hposted, OnlySlot.trans (onlySlot_flagged s i true) honly, hheld, fun g ha _ hstamp hi hg => ?_⟩
    exact grantAsked_congr hnow (by rw [flagged_recordOf]) rfl rfl rfl rfl rfl
      (hauto g ha hstamp hi (by rw [hnow]; exact hg))
  · have hmain : (s.slot i).out.mainEn = true := by
      obtain ⟨_, h, _⟩ := hout i
      rw [h, hst]; rfl
    obtain ⟨hstate, hprior, hclosed, htimer, hgrant, hshows⟩ := withdrawn_returns s i prior
    obtain ⟨hentry, hothers, hkeep, hshelf⟩ := withdrawn_keeps s i prior
    rw [bootDuration_eq] at htimer
    refine ⟨_, handleSettle_closed hrun ht hcl hf (handleClosed_returns s i prior hst hb hp hmain), hstate, hprior,
      hclosed, htimer, hgrant, hshows, returned_cue _ i prior ?_, hentry, hothers, hkeep, hshelf⟩
    rw [stateOf_eq, withdraw_recordOf, flagged_recordOf]
    exact hst

end Sys2Proof.SlotLines
end

section
/-! Lanes that open inside a step: the shape of such a change, and that a slot's entries are all OPEN after it
(chapter 6). -/

namespace Sys2Proof.SlotLines

open Sys2Proof Sys2Proof.Machine Sys2Proof.Laws Sys2Proof.Safety

/-! ### Changes of lanes -/

/-- Every entry of a pair is OPEN. -/
def AllOpen (p h : SlotId) (s : State) : Prop := ∀ e ∈ s.links, e.isPair p h = true → e.linkState = .open

theorem lanesOpen_iff (i : SlotId) (s : State) :
    LanesOpen i s ↔ ∀ p h : SlotId, p = i ∨ h = i → AllOpen p h s := by
  refine ⟨fun hl p h hph e he hp => hl e he ?_, fun hall e he ht => ?_⟩
  · simp only [LinkEntry.isPair, Bool.and_eq_true, beq_iff_eq] at hp
    simpa [LinkEntry.touches, hp.1, hp.2] using hph
  · exact hall e.payload e.hubSlot (by simpa [LinkEntry.touches] using ht) e he (by simp [LinkEntry.isPair])

/-- A change of lanes and of conversing slots' engines: no entry goes out of OPEN, and the pairs stay (R91, R101 to
R107). -/
structure LaneStep (s t : State) : Prop where
  same : SameButLanes s t
  chan : ∀ j : SlotId, (s.stateOf j).conversing = false → (t.slot j).chan = (s.slot j).chan
  stays : ∀ p h : SlotId, AllOpen p h s → AllOpen p h t
  pairs : (t.links.map fun e => (e.payload, e.hubSlot)) = s.links.map fun e => (e.payload, e.hubSlot)

theorem LaneStep.refl (s : State) : LaneStep s s := ⟨SameButLanes.refl s, fun _ _ => rfl, fun _ _ h => h, rfl⟩

theorem LaneStep.trans {s t u : State} (h : LaneStep s t) (k : LaneStep t u) : LaneStep s u :=
  ⟨h.same.trans k.same,
    fun j hj => (k.chan j (by rw [stateOf_of_lanes h.same]; exact hj)).trans (h.chan j hj),
    fun p q ho => k.stays p q (h.stays p q ho), k.pairs.trans h.pairs⟩

/-- A change of entries one by one that keeps their ends and takes none out of OPEN. -/
theorem laneStep_map (s : State) (f : LinkEntry → LinkEntry)
    (hf : ∀ e, (f e).payload = e.payload ∧ (f e).hubSlot = e.hubSlot ∧
      (e.linkState = .open → (f e).linkState = .open)) :
    LaneStep s (s.setLinks (List.map f)) where
  same := setLinks_same s _
  chan j _ := by rw [setLinks_slot]
  stays p h ho e he hp := by
    rw [setLinks_links, List.mem_map] at he
    obtain ⟨e', he', rfl⟩ := he
    obtain ⟨h1, h2, h3⟩ := hf e'
    exact h3 (ho e' he' (by simpa [LinkEntry.isPair, h1, h2] using hp))
  pairs := by
    rw [setLinks_links, List.map_map]
    exact List.map_congr_left fun e _ => by simp [(hf e).1, (hf e).2.1]

theorem laneStep_modPair (s : State) (p h : SlotId) (f : LinkEntry → LinkEntry)
    (hf : ∀ e, (f e).payload = e.payload ∧ (f e).hubSlot = e.hubSlot ∧
      (e.linkState = .open → (f e).linkState = .open)) :
    LaneStep s (s.modPair p h f) := by
  refine laneStep_map s _ fun e => ?_
  split
  · exact hf e
  · exact ⟨rfl, rfl, id⟩

theorem opened_keeps (e : LinkEntry) :
    e.opened.payload = e.payload ∧ e.opened.hubSlot = e.hubSlot ∧ (e.linkState = .open → e.opened.linkState = .open) :=
  ⟨rfl, rfl, fun _ => rfl⟩

theorem laneStep_modChan (s : State) (i : SlotId) (f : Channel → Channel) (hc : (s.stateOf i).conversing = true) :
    LaneStep s (s.modChan i f) := by
  refine ⟨modChan_same s i f, fun j hj => ?_, fun _ _ h => h, rfl⟩
  have hji : j ≠ i := by rintro rfl; rw [hc] at hj; exact absurd hj (by decide)
  rw [modChan_slot, if_neg hji]

theorem laneStep_takeReport (s : State) (p : SlotId) (r : CueReport) : LaneStep s (s.takeReport p r) := by
  cases r with
  | nothing => exact .refl s
  | linkUpCancelled h => exact laneStep_modPair s p h _ fun e => ⟨rfl, rfl, id⟩
  | drained h a =>
    refine laneStep_modPair s p h _ fun e => ?_
    split
    · rename_i ha; exact ⟨rfl, rfl, fun ho => by rw [ho] at ha; exact absurd ha (by decide)⟩
    · exact ⟨rfl, rfl, id⟩

/-- The offer of a cue (R90, R91). -/
theorem laneStep_offer (s : State) (p : SlotId) (c : Cue) : LaneStep s (s.offer p c) := by
  unfold State.offer
  split
  · rename_i hc
    have first := laneStep_modChan s p (fun ch => { ch with cueQueue := (placeCue c (s.slot p).chan.cueQueue).1 }) hc
    have second := first.trans (laneStep_takeReport _ p (placeCue c (s.slot p).chan.cueQueue).2)
    exact second.trans (laneStep_modChan _ p _ (by rw [stateOf_of_lanes second.same]; exact hc))
  · exact .refl s

theorem laneStep_openPair (tell : LinkEntry → Bool) (s : State) (ph : SlotId × SlotId) :
    LaneStep s (State.openPair tell s ph) := by
  unfold State.openPair
  split
  · exact .refl s
  · split
    · dsimp only
      split
      · exact (laneStep_modPair s _ _ _ opened_keeps).trans (laneStep_offer _ _ _)
      · exact laneStep_modPair s _ _ _ opened_keeps
    · exact .refl s

theorem laneStep_foldl {α : Type} (f : State → α → State) (hf : ∀ s a, LaneStep s (f s a)) :
    ∀ (l : List α) (s : State), LaneStep s (l.foldl f s)
  | [], s => .refl s
  | a :: l, s => (hf s a).trans (laneStep_foldl f hf l (f s a))

/-- Opening every entry of a slot (R106, R107). -/
theorem laneStep_openTouching (tell : LinkEntry → Bool) (i : SlotId) (w : Work) :
    LaneStep w.st (w.openTouching tell i).st := laneStep_foldl _ (laneStep_openPair tell) _ w.st

theorem laneStep_openJoining (s : State) (i : SlotId) : LaneStep s (s.openJoining i) := by
  refine laneStep_map s _ fun e => ?_
  split
  · exact opened_keeps e
  · exact ⟨rfl, rfl, id⟩

/-! ### The entries of a slot that leaves -/

/-- Opening a pair leaves none of its entries switched: where each pair is listed once, the entry looked up is the only
one. -/
theorem openPair_allOpen (tell : LinkEntry → Bool) (s : State) (ph : SlotId × SlotId) (h1 : PairsOnce s) :
    AllOpen ph.1 ph.2 (State.openPair tell s ph) := by
  have only : ∀ e e' : LinkEntry, e ∈ s.links → e' ∈ s.links → e.isPair ph.1 ph.2 = true → e'.isPair ph.1 ph.2 = true →
      e = e' := by
    intro e e' he he' hp hp'
    simp only [LinkEntry.isPair, Bool.and_eq_true, beq_iff_eq] at hp hp'
    exact List.inj_on_of_nodup_map h1 he he' (by rw [hp.1, hp.2, hp'.1, hp'.2])
  have opens : AllOpen ph.1 ph.2 (s.modPair ph.1 ph.2 LinkEntry.opened) := by
    intro e he hp
    rw [State.modPair, setLinks_links, List.mem_map] at he
    obtain ⟨e', _, rfl⟩ := he
    split
    · rfl
    · rename_i hn
      rw [if_neg hn] at hp
      exact absurd hp hn
  unfold State.openPair
  split
  · rename_i hnone
    intro e he hp
    rw [State.entry, List.find?_eq_none] at hnone
    exact absurd hp (hnone e he)
  · rename_i e hsome
    split
    · dsimp only
      split
      · exact (laneStep_offer _ _ _).stays _ _ opens
      · exact opens
    · rename_i hs
      intro e' he' hp'
      rw [only e' e he' (List.mem_of_find?_eq_some hsome) hp' (List.find?_some hsome)]
      revert hs
      cases e.linkState <;> simp [LinkState.switched]

theorem openPairs_allOpen (tell : LinkEntry → Bool) : ∀ (l : List (SlotId × SlotId)) (s : State), PairsOnce s →
    ∀ ph ∈ l, AllOpen ph.1 ph.2 (l.foldl (State.openPair tell) s)
  | [], _, _, _, h => absurd h List.not_mem_nil
  | a :: l, s, h1, ph, h => by
    have hstep := laneStep_openPair tell s a
    have hrest := laneStep_foldl _ (laneStep_openPair tell) l (State.openPair tell s a)
    rcases List.mem_cons.1 h with rfl | h
    · exact hrest.stays _ _ (openPair_allOpen tell s ph h1)
    · exact openPairs_allOpen tell l _ (by rw [PairsOnce, hstep.pairs]; exact h1) ph h

/-- After the opening of a slot's entries all of them are OPEN (R106). -/
theorem openTouching_lanesOpen (tell : LinkEntry → Bool) (i : SlotId) (w : Work) (h1 : PairsOnce w.st) :
    LanesOpen i (w.openTouching tell i).st := by
  intro e he ht
  have hpairs : (e.payload, e.hubSlot) ∈ w.st.pairsTouching i := by
    have hmem : (e.payload, e.hubSlot) ∈ w.st.links.map fun e => (e.payload, e.hubSlot) := by
      rw [← (laneStep_openTouching tell i w).pairs]
      exact List.mem_map_of_mem he
    obtain ⟨e', he', heq⟩ := List.mem_map.1 hmem
    obtain ⟨hp, hh⟩ := Prod.mk.inj heq
    refine List.mem_map.2 ⟨e', List.mem_filter.2 ⟨he', ?_⟩, heq⟩
    rw [LinkEntry.touches, hp, hh]
    exact ht
  exact openPairs_allOpen tell _ w.st h1 _ hpairs e he (by simp [LinkEntry.isPair])

end Sys2Proof.SlotLines
end

section
/-! What spreads from an extraction: the other slots take grants and permits, fault and isolate, while the slot that
left, and every slot that waits for a batch, keep what they have (chapters 4, 7 and 8). -/

namespace Sys2Proof.SlotLines

open Sys2Proof Sys2Proof.Machine Sys2Proof.Laws Sys2Proof.Safety

/-! ### What spreading leaves alone -/

/-- A slot but for its lane enables. -/
def bare (x : Slot) : Slot := { x with out := { x.out with laneEnA := false, laneEnB := false } }

/-- A slot on its way to power, or off it by an inrush fault: a fault acts on it in CHARGING only, and gives a batch no
outcome but FAULTED (R47, R48, R126). -/
def Calm (st : SlotState) : Prop := st = .queued ∨ st = .charging ∨ st = .cooling ∨ st = .faulted

/-- The batch has no open member but such as wait in RETIRE_PENDING, so no fault gives it an outcome (R126). -/
def Dormant (s : State) : Prop := ∀ j : SlotId, s.openMember j = true → s.stateOf j = .retirePending

/-- A hand-over of the spreading: a fault of a slot the arbiter let go on, or a drained report. -/
def Mild (s : State) : Handover → Prop
  | .fault j => Calm (s.stateOf j)
  | .drained _ => True
  | .presenceEdge _ => False
  | .considerAll => False

/-- What spreads while slot i is EMPTY: slot i, its events and its member entry, every slot in RETIRE_PENDING and every
OPEN entry stay, and of a dormant batch everything. -/
structure Spreads (i : SlotId) (s t : State) : Prop where
  slot : bare (t.slot i) = bare (s.slot i)
  entries : ∀ c : SlotClass, t.attention.entry (.slot i c) = s.attention.entry (.slot i c)
  offWait : i ∉ s.power.waitList → i ∉ t.power.waitList
  offQueue : i ∉ s.power.permitQueue → i ∉ t.power.permitQueue
  offHolders : i ∉ s.power.holders → i ∉ t.power.holders
  lanes : ∀ p h : SlotId, AllOpen p h s → AllOpen p h t
  waiting : ∀ j : SlotId, s.stateOf j = .retirePending ∨ t.stateOf j = .retirePending → t.recordOf j = s.recordOf j
  settings : t.settings = s.settings
  portA : t.portA = s.portA
  portB : t.portB = s.portB
  episode : t.episode = s.episode
  calm : ∀ j : SlotId, Calm (s.stateOf j) → Calm (t.stateOf j)
  member : t.memberOf i = s.memberOf i
  batch : Dormant s → t.batch = s.batch ∧
    t.attention.entry (.shelf .batchEnd) = s.attention.entry (.shelf .batchEnd)

/-- What spreads inside a step: what is handed over is mild. -/
structure Spread (i : SlotId) (v w : Work) : Prop extends Spreads i v.st w.st where
  todo : ∃ new : List Handover, w.todo = v.todo ++ new ∧ ∀ h ∈ new, Mild w.st h

theorem bare_record {x y : Slot} (h : bare x = bare y) : x.record = y.record := congrArg (·.record) h

theorem bare_withRecord {x y : Slot} (r : SlotRecord) (h : bare x = bare y) :
    bare { x with record := r } = bare { y with record := r } :=
  congrArg (fun z : Slot => { z with record := r }) h

theorem bare_out {x y : Slot} (h : bare x = bare y) :
    x.out.preEn = y.out.preEn ∧ x.out.mainEn = y.out.mainEn ∧ x.out.ilim = y.out.ilim ∧ x.out.led = y.out.led :=
  ⟨congrArg (·.out.preEn) h, congrArg (·.out.mainEn) h, congrArg (·.out.ilim) h, congrArg (·.out.led) h⟩

theorem Spreads.recordOf {i : SlotId} {s t : State} (h : Spreads i s t) : t.recordOf i = s.recordOf i :=
  bare_record h.slot

theorem Spreads.stateOf {i : SlotId} {s t : State} (h : Spreads i s t) : t.stateOf i = s.stateOf i := by
  rw [stateOf_eq, h.recordOf, stateOf_eq]

theorem openMember_congr {s t : State} (h : t.batch = s.batch) (j : SlotId) : t.openMember j = s.openMember j := by
  rw [State.openMember, State.memberOf, h]
  rfl

theorem Spreads.dormant {i : SlotId} {s t : State} (h : Spreads i s t) (hd : Dormant s) : Dormant t := by
  intro j hj
  rw [openMember_congr (h.batch hd).1] at hj
  have hrp := hd j hj
  rw [stateOf_eq, h.waiting j (.inl hrp)]
  exact hrp

theorem Mild.mono {s t : State} (hc : ∀ j : SlotId, Calm (s.stateOf j) → Calm (t.stateOf j)) {h : Handover}
    (hm : Mild s h) : Mild t h := by
  cases h with
  | fault j => exact hc j hm
  | drained j => trivial
  | presenceEdge j => exact hm
  | considerAll => exact hm

theorem Spreads.refl (i : SlotId) (s : State) : Spreads i s s where
  slot := rfl
  entries _ := rfl
  offWait := id
  offQueue := id
  offHolders := id
  lanes _ _ := id
  waiting _ _ := rfl
  settings := rfl
  portA := rfl
  portB := rfl
  episode := rfl
  calm _ := id
  member := rfl
  batch _ := ⟨rfl, rfl⟩

theorem Spread.refl (i : SlotId) (w : Work) : Spread i w w :=
  { Spreads.refl i w.st with todo := ⟨[], by simp, by simp⟩ }

theorem Spreads.trans {i : SlotId} {s t u : State} (h : Spreads i s t) (k : Spreads i t u) : Spreads i s u where
  slot := k.slot.trans h.slot
  entries c := (k.entries c).trans (h.entries c)
  offWait n := k.offWait (h.offWait n)
  offQueue n := k.offQueue (h.offQueue n)
  offHolders n := k.offHolders (h.offHolders n)
  lanes p q n := k.lanes p q (h.lanes p q n)
  waiting j n := by
    rcases n with n | n
    · have ht := h.waiting j (.inl n)
      have hrp : t.stateOf j = .retirePending := by rw [stateOf_eq, ht]; exact n
      exact (k.waiting j (.inl hrp)).trans ht
    · have hu := k.waiting j (.inr n)
      have hrp : t.stateOf j = .retirePending := by rw [stateOf_eq, ← hu]; exact n
      exact hu.trans (h.waiting j (.inr hrp))
  settings := k.settings.trans h.settings
  portA := k.portA.trans h.portA
  portB := k.portB.trans h.portB
  episode := k.episode.trans h.episode
  calm j n := k.calm j (h.calm j n)
  member := k.member.trans h.member
  batch n := by
    obtain ⟨hb, he⟩ := h.batch n
    obtain ⟨kb, ke⟩ := k.batch (h.dormant n)
    exact ⟨kb.trans hb, ke.trans he⟩

theorem Spread.trans {i : SlotId} {u v w : Work} (h : Spread i u v) (k : Spread i v w) : Spread i u w :=
  { h.toSpreads.trans k.toSpreads with
    todo := by
      obtain ⟨new, hnew, hm⟩ := h.todo
      obtain ⟨more, hmore, km⟩ := k.todo
      refine ⟨new ++ more, by rw [hmore, hnew, List.append_assoc], fun x hx => ?_⟩
      rcases List.mem_append.1 hx with hx | hx
      · exact (hm x hx).mono k.calm
      · exact km x hx }

/-! ### The steps spreading is made of -/

/-- Changes of lanes and of conversing slots' engines. -/
theorem spreads_lanes {i : SlotId} {s t : State} (hi : s.stateOf i = .empty) (h : LaneStep s t) : Spreads i s t := by
  have hrec := recordOf_of_lanes h.same
  have hpow := power_of_lanes h.same
  have hatt := attention_of_lanes h.same
  obtain ⟨hset, hbatch, hpA, hpB, hep, _⟩ := sameShelf_of_lanes h.same
  have hchan := h.chan i (by rw [hi]; rfl)
  obtain ⟨h1, h2, h3, h4, h5, h6, h7, h8, h9⟩ := h.same.1 i
  constructor
  case slot =>
    have key : ∀ x y : Slot, y.record = x.record → y.lines = x.lines → y.cond = x.cond → y.chan = x.chan →
        y.out.preEn = x.out.preEn → y.out.mainEn = x.out.mainEn → y.out.ilim = x.out.ilim → y.out.led = x.out.led →
        y.out.lit = x.out.lit → y.out.blink = x.out.blink → bare y = bare x := by
      rintro ⟨_, _, _, ⟨⟩, _⟩ ⟨_, _, _, ⟨⟩, _⟩
      simp only [bare]
      rintro rfl rfl rfl rfl rfl rfl rfl rfl rfl rfl
      rfl
    exact key _ _ h1 h2 h3 hchan h4 h5 h6 h7 h8 h9
  case entries => intro c; rw [hatt]
  case offWait => rw [hpow]; exact id
  case offQueue => rw [hpow]; exact id
  case offHolders => rw [hpow]; exact id
  case lanes => exact h.stays
  case waiting => intro j _; exact hrec j
  case settings => exact hset
  case portA => exact hpA
  case portB => exact hpB
  case episode => exact hep
  case calm => intro j hj; rwa [stateOf_of_lanes h.same]
  case member => rw [State.memberOf, hbatch]; rfl
  case batch => intro _; exact ⟨hbatch, by rw [hatt]⟩

theorem spread_lanes {i : SlotId} {w : Work} {f : State → State} (hi : w.st.stateOf i = .empty)
    (h : LaneStep w.st (f w.st)) : Spread i w (w.on f) :=
  { spreads_lanes hi h with todo := ⟨[], by simp, by simp⟩ }

/-- Changes of the power accounts that put slot i on no list. -/
theorem spread_modPower {i : SlotId} {w : Work} {f : PowerAccounts → PowerAccounts}
    (hw : i ∉ w.st.power.waitList → i ∉ (f w.st.power).waitList)
    (hq : i ∉ w.st.power.permitQueue → i ∉ (f w.st.power).permitQueue)
    (hh : i ∉ w.st.power.holders → i ∉ (f w.st.power).holders) : Spread i w (w.on (State.modPower f)) :=
  { Spread.refl i w with
    offWait := hw, offQueue := hq, offHolders := hh
    slot := rfl, entries := fun _ => rfl, lanes := fun _ _ => id, waiting := fun _ _ => rfl, calm := fun _ => id
    batch := fun _ => ⟨rfl, rfl⟩, todo := ⟨[], by simp, by simp⟩ }

/-- Writing an event of another slot, or of the shelf but for BATCH_END. -/
theorem spread_modEvent {i : SlotId} {w : Work} {k : EventKey} {f : PendingEntry → PendingEntry}
    (hk : ∀ c : SlotClass, k ≠ .slot i c) (hb : k ≠ .shelf .batchEnd) : Spread i w (w.on (State.modEvent k f)) :=
  { Spread.refl i w with
    entries := fun c => by rw [on_st, modEvent_entry, if_neg (hk c).symm]
    batch := fun _ => ⟨rfl, by rw [on_st, modEvent_entry, if_neg hb.symm]⟩
    slot := rfl, offWait := id, offQueue := id, offHolders := id, lanes := fun _ _ => id, waiting := fun _ _ => rfl
    calm := fun _ => id, todo := ⟨[], by simp, by simp⟩ }

/-- Writing the record of a slot that is neither EMPTY nor waits for a batch. -/
theorem spread_modRecord {i j : SlotId} {w : Work} {f : SlotRecord → SlotRecord} (hi : w.st.stateOf i = .empty)
    (hf : (f (w.st.recordOf j)).state = w.st.stateOf j) (he : w.st.stateOf j ≠ .empty)
    (hr : w.st.stateOf j ≠ .retirePending) : Spread i w (w.on (State.modRecord j f)) := by
  have hij : i ≠ j := by rintro rfl; exact he hi
  have hstate : ∀ k, (w.st.modRecord j f).stateOf k = w.st.stateOf k := by
    intro k
    rw [stateOf_eq, modRecord_recordOf]
    split
    · rename_i h; rw [h]; exact hf
    · rfl
  exact
    { Spread.refl i w with
      slot := by rw [on_st, modRecord_slot, if_neg hij]
      waiting := fun k hk => by
        have hkj : k ≠ j := by
          rintro rfl
          rw [on_st, hstate, or_self] at hk
          exact hr hk
        rw [on_st, modRecord_recordOf, if_neg hkj]
      calm := fun k hk => by rwa [on_st, hstate]
      entries := fun _ => rfl, offWait := id, offQueue := id, offHolders := id, lanes := fun _ _ => id
      batch := fun _ => ⟨rfl, rfl⟩, todo := ⟨[], by simp, by simp⟩ }

/-- A move of a slot that is neither EMPTY nor waits for a batch, to such a state; a slot on its way to power stays so,
and an enable is turned ON only of such a slot. -/
theorem spread_enter {i j : SlotId} {w : Work} {new : SlotState} {why : Option ReasonCode}
    (hi : w.st.stateOf i = .empty) (he : w.st.stateOf j ≠ .empty) (hr : w.st.stateOf j ≠ .retirePending)
    (hd : new.debounces = false) (hn : new ≠ .retirePending) (hc : Calm (w.st.stateOf j) → Calm new)
    (ht : (w.st.slot j).out.turnsOn (outputUpdate new (w.st.recordOf j)) = true → Calm new) :
    Spread i w (w.enter j new why) := by
  have hij : i ≠ j := by rintro rfl; exact he hi
  have hmem := enter_mem w.st j i new why
  simp only [if_neg hij] at hmem
  obtain ⟨hmw, hmq, hmh⟩ := hmem
  refine
    { Spread.refl i w with
      slot := by rw [work_enter_st, enter_slot, if_neg hij]
      offWait := fun n => by rwa [work_enter_st, hmw]
      offQueue := fun n => by rwa [work_enter_st, hmq]
      offHolders := fun n => by rwa [work_enter_st, hmh]
      waiting := fun k hk => ?_
      calm := fun k hk => ?_
      entries := fun _ => rfl, lanes := fun _ _ => id, batch := fun _ => ⟨rfl, rfl⟩
      todo := ⟨(w.st.slot j).handsOver j new, rfl, fun h hh => ?_⟩ }
  · have hkj : k ≠ j := by
      rintro rfl
      rw [work_enter_st, enter_stateOf, if_pos rfl] at hk
      exact hk.elim hr hn
    rw [work_enter_st, enter_recordOf, if_neg hkj]
  · rw [work_enter_st, enter_stateOf]
    split
    · rename_i h; rw [h] at hk; exact hc hk
    · exact hk
  · have hedge : edgeOnEntry (w.st.slot j).record.state new (w.st.slot j).lines.presL (w.st.slot j).cond = false := by
      simp [edgeOnEntry, hd]
    simp only [Slot.handsOver, hedge, List.append_nil, Bool.false_eq_true, if_false] at hh
    split at hh
    · rename_i hon
      rw [List.mem_singleton.1 hh]
      simp only [Mild, work_enter_st, enter_stateOf, if_true]
      exact ht (Bool.and_eq_true_iff.1 hon).1
    · exact absurd hh List.not_mem_nil

end Sys2Proof.SlotLines
end

section
/-! The flows that spread: the PAU's reaction to a move, a storm, an inrush fault, a member's outcome and a member that
isolates, each made of the steps of `Spread` (R64 to R78, R124, R126, R143). -/

namespace Sys2Proof.SlotLines

open Sys2Proof Sys2Proof.Machine Sys2Proof.Laws Sys2Proof.Safety

/-! ### The PAU's reaction -/

/-- A property of steps under way that a cleared deficit, a head let in, a permit given, and places of slots that have
left a list keep (R64, R69, R72). -/
structure PassedOn (Q : Work → Prop) : Prop where
  clear : ∀ w : Work, Q w → Q (w.on State.clearDeficit)
  letIn : ∀ (w : Work) (j : SlotId), w.st.stateOf j = .budgetWait → Q w →
    Q ((w.on (State.reserve j)).enter j .queued none)
  offWait : ∀ (w : Work) (j : SlotId), Q w →
    Q (w.on (State.modPower fun p => { p with waitList := without j p.waitList }))
  permit : ∀ (w : Work) (j : SlotId), w.st.stateOf j = .queued → w.st.nextPermit = some j → Q w →
    Q (w.enter j .charging none)
  offQueue : ∀ (w : Work) (j : SlotId), Q w →
    Q (w.on (State.modPower fun p => { p with permitQueue := without j p.permitQueue }))

namespace PassedOn

variable {Q : Work → Prop} (hQ : PassedOn Q)
include hQ

theorem arbitrate : ∀ (n : Nat) (w : Work), Q w → Q (arbitrate n w)
  | 0, _, h => h
  | n + 1, w, h => by
    unfold Machine.arbitrate
    split
    · exact h
    · rename_i j hj
      refine arbitrate n _ ?_
      unfold Work.grantPermit
      split
      · rename_i hq; exact hQ.permit w j hq hj h
      · exact hQ.offQueue w j h

theorem passHeads : ∀ (l : List SlotId) (w : Work), Q w → Q (passHeads l w).1
  | [], _, h => h
  | j :: rest, w, h => by
    unfold Machine.passHeads
    split
    · split
      · rename_i hs; exact passHeads rest _ (hQ.letIn w j hs h)
      · exact passHeads rest _ (hQ.offWait w j h)
    · exact h

theorem testHead (released : Bool) (w : Work) (h : Q w) : Q (w.testHead released) := by
  unfold Work.testHead
  dsimp only
  split
  · exact hQ.arbitrate _ _ (hQ.passHeads _ w h)
  · exact hQ.passHeads _ w h

theorem react (f : MoveFacts) (w : Work) (h : Q w) : Q (w.react f) := by
  have hclear : Q (if f.released = true then w.on State.clearDeficit else w) := by
    split
    · exact hQ.clear w h
    · exact h
  unfold Work.react
  dsimp only
  split
  · exact hQ.testHead _ _ hclear
  · split
    · exact hQ.arbitrate _ _ hclear
    · exact hclear

end PassedOn

/-! ### What the flows spread -/

/-- Spreading over changes of lanes. -/
theorem Spread.lanesOf {i : SlotId} {v w : Work} {f : State → State} (h : Spread i v w) (hi : v.st.stateOf i = .empty)
    (hl : LaneStep w.st (f w.st)) : Spread i v (w.on f) :=
  h.trans (spread_lanes (h.stateOf.trans hi) hl)

/-- A move of a slot that is neither EMPTY nor waits for a batch to a state on the way to power, or off it by an inrush
fault. -/
theorem spread_toCalm {i j : SlotId} {w : Work} {old new : SlotState} {why : Option ReasonCode}
    (hi : w.st.stateOf i = .empty) (hj : w.st.stateOf j = old) (ho : old ≠ .empty ∧ old ≠ .retirePending)
    (hc : Calm new) : Spread i w (w.enter j new why) := by
  have hn : new.debounces = false ∧ new ≠ .retirePending := by
    rcases hc with rfl | rfl | rfl | rfl <;> exact ⟨rfl, by decide⟩
  exact spread_enter hi (by rw [hj]; exact ho.1) (by rw [hj]; exact ho.2) hn.1 hn.2 (fun _ => hc) (fun _ => hc)

/-- What the PAU passes on spreads (R64, R69, R72). -/
theorem spread_passedOn {i : SlotId} {v : Work} (hi : v.st.stateOf i = .empty) : PassedOn (Spread i v) where
  clear w h := by
    refine h.trans ?_
    rcases clearDeficit_cases w.st with ⟨_, _, hc⟩ | ⟨_, hc⟩
    · have heq : w.on State.clearDeficit =
          (w.on (State.modPower fun p => { p with deficit := false })).on (State.postShelf .budget (.budget true)) := by
        rw [Work.on, hc]; rfl
      rw [heq]
      exact (spread_modPower id id id).trans (spread_modEvent (fun _ => by simp) (by decide))
    · have heq : w.on State.clearDeficit = w := by rw [Work.on, hc]
      rw [heq]
      exact .refl i w
  letIn w j hj h := by
    have hempty := h.stateOf.trans hi
    let part : SlotRecord → SlotRecord := fun r => { r with power := r.power.map fun p => { p with reserved := true } }
    let sum : PowerAccounts → PowerAccounts := fun p => { p with sumOfGrants := p.sumOfGrants + w.st.grantOf j }
    have hpart : Spread i w (w.on (State.modRecord j part)) :=
      spread_modRecord hempty rfl (by simp [hj]) (by simp [hj])
    have hres : Spread i w (w.on (State.reserve j)) := hpart.trans (spread_modPower (f := sum) id id id)
    have hj' : (w.st.reserve j).stateOf j = .budgetWait := by
      rw [stateOf_eq, (reserve_spec w.st j j).1, if_pos rfl]; exact hj
    exact (h.trans hres).trans (spread_toCalm (hres.stateOf.trans hempty) hj' (by decide) (.inl rfl))
  offWait w j h := h.trans (spread_modPower (fun n hm => n (List.mem_filter.1 hm).1) id id)
  permit w j hj _ h := h.trans (spread_toCalm (h.stateOf.trans hi) hj (by decide) (.inr (.inl rfl)))
  offQueue w j h := h.trans (spread_modPower id (fun n hm => n (List.mem_filter.1 hm).1) id)

theorem Spread.react {i : SlotId} {v w : Work} (h : Spread i v w) (hi : v.st.stateOf i = .empty) (f : MoveFacts) :
    Spread i v (w.react f) := (spread_passedOn hi).react f w h

/-- A walk of back-offs spreads (R77). -/
theorem spread_backOffs {i : SlotId} {v : Work} (hi : v.st.stateOf i = .empty) :
    ∀ (l : List SlotId) (w : Work), Spread i v w → Spread i v (l.foldl (fun v i => v.backOff i) w)
  | [], _, h => h
  | j :: l, w, h => by
    have hone : Spread i w (w.backOff j) := by
      unfold Work.backOff
      split
      · rename_i hj
        exact spread_toCalm (h.stateOf.trans hi) hj (by decide) (.inl rfl)
      · exact .refl i w
    exact spread_backOffs hi l _ (h.trans hone)

/-- A fault-class event of another slot, with its storm, spreads (R143, R144). -/
theorem Spread.storm {i : SlotId} {v w : Work} (h : Spread i v w) (hi : v.st.stateOf i = .empty) (j : SlotId) :
    Spread i v (w.storm j) := by
  rcases storm_cases j w with ⟨_, hs⟩ | ⟨hf, hs⟩
  · rw [hs]
    exact h.trans (spread_modEvent (by simp) (by decide))
  · have hfreeze : Spread i v w.setFreeze := by
      rw [Work.setFreeze, hf, if_neg Bool.false_ne_true]
      exact spread_backOffs hi _ _ (h.trans (spread_modPower id id id))
    rw [hs]
    exact hfreeze.trans (spread_modEvent (fun _ => by simp) (by decide))

theorem Spread.postFault {i j : SlotId} {v w : Work} (h : Spread i v w) (hi : v.st.stateOf i = .empty) (hij : j ≠ i)
    (c : SlotClass) (d : Detail) : Spread i v (w.postFault j c d) := by
  have hpost : Spread i v (w.on (State.postSlot j c d)) := h.trans (spread_modEvent (by simp [hij]) (by simp))
  rcases postFault_cases j w c d with ⟨_, hp⟩ | ⟨_, hp⟩
  · rw [hp]; exact hpost
  · rw [hp]; exact hpost.storm hi j

/-- A member is given an outcome and its flag is cleared (R117, R126). -/
def given (j : SlotId) (o : MemberOutcome) (w : Work) : Work :=
  (w.on (State.modMember j fun m => { m with outcome := some o })).on
    (State.modRecord j fun r => { r with batchMember := false })

/-- An open member that moves to a state with an outcome is given it, and the batch end is tested (R126, R127). -/
theorem memberMoved_open {j : SlotId} {o : MemberOutcome} {w : Work} (hm : w.st.openMember j = true)
    (ho : (w.st.stateOf j).outcome = some o) : w.memberMoved j = (given j o w).batchEnd := by
  have hs : w.st.stateOf j ≠ .inService := by intro e; rw [e] at ho; exact absurd ho (by simp [SlotState.outcome])
  have hgive : w.on (State.giveOutcome j o) = given j o w := by
    have hn : (given j o w).st.stateOf j ≠ .inService := by
      rw [given, on_st, stateOf_eq, modRecord_recordOf, if_pos rfl]; exact hs
    rw [Work.on, State.giveOutcome, if_pos hm, State.clearMemberFlag]
    exact congrArg (Work.mk · w.todo) (if_neg hn)
  rw [Work.memberMoved, ho]
  simp only [hm, if_true]
  rw [hgive]

theorem work_ext {v w : Work} (h : v.st = w.st) (k : v.todo = w.todo) : v = w := by
  cases v; cases w; cases h; cases k; rfl

theorem exists_member {s : State} {j : SlotId} (h : s.openMember j = true) : ∃ m, s.memberOf j = some m := by
  rw [State.openMember] at h
  split at h
  · exact ⟨_, ‹_›⟩
  · exact absurd h (by simp)

/-- The outcome of a slot that has faulted spreads: the batch can only end in DONE_FAULT (R126, R127). -/
theorem Spread.memberMoved {i j : SlotId} {v w : Work} (h : Spread i v w) (hi : v.st.stateOf i = .empty)
    (hj : Calm (w.st.stateOf j)) : Spread i v (w.memberMoved j) := by
  have hempty := h.stateOf.trans hi
  have hij : i ≠ j := by rintro rfl; rw [hempty] at hj; revert hj; simp [Calm]
  by_cases ho : w.st.openMember j = true
  case neg => rw [memberMoved_none j w (.inl (by simpa using ho))]; exact h
  by_cases hf : w.st.stateOf j = .faulted
  case neg =>
    have hnone : (w.st.stateOf j).outcome = none := by
      rcases hj with e | e | e | e
      · rw [e]; rfl
      · rw [e]; rfl
      · rw [e]; rfl
      · exact absurd e hf
    rw [memberMoved_none j w (.inr hnone)]
    exact h
  have notDormant : ¬ Dormant w.st := fun hd => by
    have hrp := hd j ho
    rw [hf] at hrp
    exact absurd hrp (by decide)
  have hmem : Spread i w (w.on (State.modMember j fun m => { m with outcome := some .faulted })) :=
    { Spread.refl i w with
      member := by rw [on_st, modMember_memberOf w.st j i (fun m => { m with outcome := some .faulted }) fun _ => rfl,
        if_neg hij]
      batch := fun hd => absurd hd notDormant
      slot := rfl, entries := fun _ => rfl, offWait := id, offQueue := id, offHolders := id, lanes := fun _ _ => id
      waiting := fun _ _ => rfl, calm := fun _ => id, todo := ⟨[], by simp, by simp⟩ }
  have hflag : Spread i w (given j .faulted w) :=
    hmem.trans (spread_modRecord (j := j) hempty rfl (by rw [on_st, modMember_stateOf, hf]; decide)
      (by rw [on_st, modMember_stateOf, hf]; decide))
  rw [memberMoved_open ho (by rw [hf]; rfl)]
  rcases batchEnd_cases (given j .faulted w) with ⟨_, _, fault, hfault, hst, htodo⟩ | ⟨_, hend⟩
  · have hfails : fault = true := by
      obtain ⟨m, hm⟩ := exists_member ho
      rw [hfault, List.any_eq_true]
      refine ⟨{ m with outcome := some .faulted }, List.mem_map.2 ⟨m, List.mem_of_find?_eq_some hm, ?_⟩, rfl⟩
      exact if_pos (by simpa using List.find?_some hm)
    subst hfails
    refine h.trans ?_
    generalize given j .faulted w = u at hst htodo hflag ⊢
    have hdone : Spread i w ((u.on (State.modBatch fun b => { b with state := .doneFault })).on
        (State.postShelf .batchEnd (.batchEnd true))) :=
      { hflag with
        entries := fun c => by
          rw [← hflag.entries c]
          show (State.post _ _ _).attention.entry _ = _
          rw [post_entry, if_neg (by simp)]
          rfl
        batch := fun hd => absurd hd notDormant }
    have heq : u.batchEnd = (u.on (State.modBatch fun b => { b with state := .doneFault })).on
        (State.postShelf .batchEnd (.batchEnd true)) := work_ext hst (htodo.trans (List.append_nil _))
    rw [heq]
    exact hdone
  · rw [hend]; exact h.trans hflag

/-- An inrush fault of a slot in CHARGING spreads (R47, R48). -/
theorem Spread.inrushFault {i j : SlotId} {v w : Work} (h : Spread i v w) (hi : v.st.stateOf i = .empty)
    (hj : w.st.stateOf j = .charging) : Spread i v (w.inrushFault j) := by
  have hempty := h.stateOf.trans hi
  have hij : j ≠ i := by rintro rfl; rw [hempty] at hj; exact absurd hj (by decide)
  have finish : ∀ u : Work, Spread i v u → Calm (u.st.stateOf j) → ∀ f : MoveFacts,
      Spread i v (((u.postFault j .powerFault (.fault .inrush)).react f).memberMoved j) := by
    intro u hu hc f
    have hpost := (Spread.refl i u).postFault (hu.stateOf.trans hi) hij .powerFault (.fault .inrush)
    have hreact := hpost.react (hu.stateOf.trans hi) f
    exact (hu.trans hreact).memberMoved hi (hreact.calm j hc)
  unfold Work.inrushFault
  dsimp only
  split
  · rw [if_pos rfl]
    have hretry : Spread i w (w.on (State.modRecord j fun r => { r with retriesUsed := r.retriesUsed + 1 })) :=
      spread_modRecord hempty rfl (by simp [hj]) (by simp [hj])
    have hj' : (w.st.modRecord j fun r => { r with retriesUsed := r.retriesUsed + 1 }).stateOf j = .charging := by
      rw [stateOf_eq, modRecord_recordOf, if_pos rfl]; exact hj
    refine finish _ ((h.trans hretry).trans (spread_toCalm (hretry.stateOf.trans hempty) hj' (by decide)
      (.inr (.inr (.inl rfl))))) ?_ _
    rw [work_enter_st, enter_stateOf, if_pos rfl]
    exact .inr (.inr (.inl rfl))
  · rw [if_neg (by decide)]
    refine finish _ (h.trans (spread_toCalm hempty hj (by decide) (.inr (.inr (.inr rfl))))) ?_ _
    rw [work_enter_st, enter_stateOf, if_pos rfl]
    exact .inr (.inr (.inr rfl))

end Sys2Proof.SlotLines
end

section
/-! The hand-overs of a step that spreads: faults, drained reports, and the consideration of every slot for autonomous
retirement (R121, R124, R132). -/

namespace Sys2Proof.SlotLines

open Sys2Proof Sys2Proof.Machine Sys2Proof.Laws Sys2Proof.Safety

/-! ### Drained reports -/

theorem spread_hand {i : SlotId} {w : Work} {hs : List Handover} (h : ∀ x ∈ hs, Mild w.st x) : Spread i w (w.hand hs) :=
  { Spread.refl i w with
    todo := ⟨hs, rfl, h⟩
    slot := rfl, entries := fun _ => rfl, offWait := id, offQueue := id, offHolders := id, lanes := fun _ _ => id
    waiting := fun _ _ => rfl, calm := fun _ => id, batch := fun _ => ⟨rfl, rfl⟩ }

/-- A slot's entries are opened and the other ends reported (R106, R107). -/
theorem Spread.openTouching {i : SlotId} {v w : Work} (h : Spread i v w) (hi : v.st.stateOf i = .empty)
    (tell : LinkEntry → Bool) (j : SlotId) : Spread i v (w.openTouching tell j) := by
  refine (h.lanesOf hi (laneStep_openTouching tell j w)).trans (spread_hand fun x hx => ?_)
  obtain ⟨k, _, rfl⟩ := List.mem_map.1 hx
  trivial

/-- A member in DRAINING isolates: it moves, its entries open, and the warning is offered; the lane settle timer runs,
so it goes no further in the same step (R107, R124). -/
theorem isolate_eq (j : SlotId) (w : Work) (hj : w.st.stateOf j = .draining) :
    w.isolate j = (((w.enter j .isolating none).openIsolating j).on (State.offer j .powerOffWarning)) := by
  have hmove : w.move j .isolating none = w.enter j .isolating none :=
    move_still j _ _ w (.inl rfl) (by simp [hj]) (by simp [hj])
  rw [Work.isolate, hmove]
  rcases testIsolating_cases j (((w.enter j .isolating none).openIsolating j).on (State.offer j .powerOffWarning)) with
    ⟨_, hphase, _⟩ | ⟨_, h⟩
  · have hrec := (recordOf_of_lanes (openTouching_same (fun e => e.payload != j && e.linkState == .drainAsked) j
      (w.enter j .isolating none)) j)
    rw [on_st, recordOf_of_lanes (offer_same _ _ _), Work.openIsolating, hrec, work_enter_st, enter_recordOf,
      if_pos rfl] at hphase
    exact absurd hphase (by simp [SlotRecord.enter, phaseDuration])
  · exact h

theorem turnsOn_isolating {s : State} {j : SlotId} (ho : OutputsFollow s) (hj : s.stateOf j = .draining) :
    (s.slot j).out.turnsOn (outputUpdate .isolating (s.recordOf j)) = false := by
  obtain ⟨_, hm, _, _⟩ := ho j
  rw [hj] at hm
  simp [OutputLines.turnsOn, outputUpdate, hm, SlotState.preEnOn, SlotState.mainEnOn]

theorem Spread.isolate {i j : SlotId} {v w : Work} (h : Spread i v w) (hi : v.st.stateOf i = .empty)
    (hj : w.st.stateOf j = .draining) (ho : OutputsFollow w.st) : Spread i v (w.isolate j) := by
  rw [isolate_eq j w hj]
  have henter : Spread i w (w.enter j .isolating none) :=
    spread_enter (h.stateOf.trans hi) (by simp [hj]) (by simp [hj]) rfl (by decide)
      (fun hc => by rw [hj] at hc; revert hc; simp [Calm])
      (fun ht => by rw [turnsOn_isolating ho hj] at ht; exact absurd ht (by decide))
  exact ((h.trans henter).openTouching hi _ j).lanesOf hi (laneStep_offer _ _ _)

/-- A hand-over of the spreading spreads. -/
theorem spread_take {i : SlotId} {w : Work} {h : Handover} (hi : w.st.stateOf i = .empty) (ho : OutputsFollow w.st)
    (hm : Mild w.st h) : Spread i w (Work.take h w) := by
  cases h with
  | fault j =>
    rw [take_fault]
    rcases faultAsserted_cases j w with ⟨hj, hw⟩ | ⟨hj, _⟩ | ⟨_, _, _, hw⟩
    · have hch : w.st.stateOf j = .charging := by
        rcases hj with hj | hj
        · exact hj
        · rcases hm with e | e | e | e <;> rw [e] at hj <;> exact absurd hj (by decide)
      rw [hw]
      exact (Spread.refl i w).inrushFault hi hch
    · rcases hm with e | e | e | e <;> rw [e] at hj <;> exact absurd hj (by decide)
    · rw [hw]; exact .refl i w
  | drained j =>
    rw [take_drained]
    rcases drained_cases j w with ⟨hj, _, hw⟩ | ⟨_, hw⟩
    · rw [hw]; exact (Spread.refl i w).isolate hi hj ho
    · rw [hw]; exact .refl i w
  | presenceEdge j => exact hm.elim
  | considerAll => exact hm.elim

/-! ### A step's hand-overs in turn -/

/-- One hand-over is taken: what it spreads, and that the rest of the spreading can go on. -/
theorem spread_pop {i : SlotId} {w : Work} {h : Handover} {rest : List Handover} (hi : w.st.stateOf i = .empty)
    (ho : OutputsFollow w.st) (hm : Mild w.st h) :
    Spreads i w.st (Work.take h { w with todo := rest }).st ∧
      OutputsFollow (Work.take h { w with todo := rest }).st ∧
      ∃ new : List Handover, (Work.take h { w with todo := rest }).todo = rest ++ new ∧
        (∀ x ∈ new, Mild (Work.take h { w with todo := rest }).st x) ∧
        ∀ x, Mild w.st x → Mild (Work.take h { w with todo := rest }).st x := by
  have hs : Spread i { w with todo := rest } (Work.take h { w with todo := rest }) := spread_take hi ho hm
  obtain ⟨new, hnew, hmild⟩ := hs.todo
  exact ⟨hs.toSpreads, outputsFollow_kept.take (w := { w with todo := rest }) h ho, new, hnew, hmild,
    fun x hx => Mild.mono hs.calm hx⟩

/-- A step's hand-overs spread. -/
theorem spread_settle {i : SlotId} : ∀ (n : Nat) (w : Work), w.st.stateOf i = .empty → OutputsFollow w.st →
    (∀ h ∈ w.todo, Mild w.st h) → Spreads i w.st (settle n w)
  | 0, w, _, _, _ => .refl i _
  | n + 1, w, hi, ho, hm => by
    unfold settle
    split
    · exact .refl i _
    · rename_i h rest htodo
      rw [htodo] at hm
      obtain ⟨hs, ho', new, hnew, hmild, hmono⟩ := spread_pop (rest := rest) hi ho (hm h List.mem_cons_self)
      refine hs.trans (spread_settle n _ (hs.stateOf.trans hi) ho' fun x hx => ?_)
      rw [hnew] at hx
      rcases List.mem_append.1 hx with hx | hx
      · exact hmono x (hm x (List.mem_cons_of_mem _ hx))
      · exact hmild x hx

/-- A step that considers every slot once: the hand-overs before it spread, and those after it can. -/
theorem spread_settle_consider {i : SlotId} : ∀ (pre : List Handover) (n : Nat) (w : Work) (post : List Handover),
    w.todo = pre ++ .considerAll :: post → pre.length < n → w.st.stateOf i = .empty → OutputsFollow w.st →
    (∀ h ∈ pre ++ post, Mild w.st h) →
    ∃ (m : Nat) (u : Work), Spreads i w.st u.st ∧ (∀ h ∈ u.todo, Mild u.st h) ∧
      OutputsFollow u.st ∧ settle n w = settle m (u.on State.considerAll)
  | _, 0, _, _, _, hn, _, _, _ => absurd hn (Nat.not_lt_zero _)
  | [], n + 1, w, post, htodo, _, hi, ho, hm => by
    refine ⟨n, { w with todo := post }, .refl i _, hm, ho, ?_⟩
    rw [settle, htodo]
    rfl
  | h :: pre, n + 1, w, post, htodo, hn, hi, ho, hm => by
    obtain ⟨hs, ho', new, hnew, hmild, hmono⟩ :=
      spread_pop (rest := pre ++ .considerAll :: post) hi ho (hm h (by simp))
    obtain ⟨m, u, hu, hmu, hou, heq⟩ := spread_settle_consider pre n
      (Work.take h { w with todo := pre ++ .considerAll :: post }) (post ++ new)
      (by rw [hnew, List.append_assoc]; rfl) (Nat.lt_of_succ_lt_succ hn) (hs.stateOf.trans hi) ho' (fun x hx => by
        rw [← List.append_assoc] at hx
        rcases List.mem_append.1 hx with hx | hx
        · exact hmono x (hm x (by rw [List.cons_append]; exact List.mem_cons_of_mem _ hx))
        · exact hmild x hx)
    refine ⟨m, u, hs.trans hu, hmu, hou, ?_⟩
    rw [settle, htodo]
    exact heq

/-! ### Every slot considered -/

/-- Of a batch that is DONE a slot is added on its own where it waits, is let to, and is no member yet (R132). -/
def Adds (s : State) (j : SlotId) : Bool :=
  s.roleOf j == .payload && s.stateOf j == .retirePending && (s.recordOf j).policy.autoRetire &&
    !(s.recordOf j).batchMember

theorem autoSlots_done (s : State) : autoSlots .done s = allSlots.filter (Adds s) :=
  List.filter_congr fun j _ => by simp [Adds]

/-- What the additions of these slots to a batch that was DONE have left (R132, R164). -/
structure Added (s : State) (l : List SlotId) (t : State) : Prop where
  batch : t.batch = autoBatch l s
  episode : EpisodeEnters l s.episode t.episode
  slot : ∀ j : SlotId, bare (t.slot j) =
    bare { s.slot j with
      record := { s.recordOf j with batchMember := (s.recordOf j).batchMember || l.contains j } }
  lanes : ∀ p h : SlotId, AllOpen p h s → AllOpen p h t
  power : t.power = s.power
  attention : t.attention = s.attention
  settings : t.settings = s.settings
  portA : t.portA = s.portA
  portB : t.portB = s.portB

theorem Added.recordOf {s t : State} {l : List SlotId} (h : Added s l t) (j : SlotId) :
    t.recordOf j = { s.recordOf j with batchMember := (s.recordOf j).batchMember || l.contains j } :=
  bare_record (h.slot j)

theorem Added.stateOf {s t : State} {l : List SlotId} (h : Added s l t) (j : SlotId) : t.stateOf j = s.stateOf j := by
  rw [stateOf_eq, h.recordOf j, stateOf_eq]

theorem Added.nil (s : State) : Added s [] s where
  batch := rfl
  episode := ⟨rfl, id, by simp⟩
  slot j := by simp [State.recordOf]
  lanes _ _ := id
  power := rfl
  attention := rfl
  settings := rfl
  portA := rfl
  portB := rfl

theorem episodeEnters_enter {l : List SlotId} {a : SlotId} {e e' : Episode} (h : EpisodeEnters l e e') :
    EpisodeEnters (l ++ [a]) e (e'.enter a) := by
  obtain ⟨hrest, hnodup, hmem⟩ := h
  have hstate : e'.state = e.state := by rw [hrest]
  unfold Episode.enter
  split
  · rename_i hc
    obtain ⟨hopen, hnot⟩ := hc
    have hnot : a ∉ e'.retired := by simpa using hnot
    refine ⟨by rw [hrest], fun hn => nodup_insertSlot _ _ _ (hnodup hn) hnot, fun k => ?_⟩
    simp only [mem_insertSlot, hmem, List.mem_append, List.mem_singleton, ← hstate, hopen, true_and]
    tauto
  · rename_i hc
    refine ⟨hrest, hnodup, fun k => ?_⟩
    simp only [hmem, List.mem_append, List.mem_singleton, ← hstate]
    by_cases ho : e'.state = .open
    · have hin : a ∈ e'.retired := by
        by_contra hn
        exact hc ⟨ho, by simpa using hn⟩
      rw [hmem, ← hstate] at hin
      simp only [ho, true_and] at hin ⊢
      constructor
      · tauto
      · rintro (hk | hk | rfl)
        · exact .inl hk
        · exact .inr hk
        · exact hin
    · simp [ho]

end Sys2Proof.SlotLines
end

section
/-! Every slot considered for autonomous retirement after a batch has ended as DONE (R132, R164). -/

namespace Sys2Proof.SlotLines

open Sys2Proof Sys2Proof.Machine Sys2Proof.Laws Sys2Proof.Safety

/-- A slot not considered yet is added exactly where it waits to be (R132). -/
theorem Added.autoRetires {s t : State} {l : List SlotId} (h : Added s l t) (hd : s.batch.state = .done)
    (hn : s.anyActive = false) {a : SlotId} (ha : a ∉ l) : t.autoRetires a = Adds s a := by
  have hactive : t.anyActive = false := by rw [State.anyActive, h.portA, h.portB]; exact hn
  have hcan : (t.batch.state == .idle || t.batch.state == .done ||
      (t.batch.state == .gathering && (t.memberOf a).isNone)) = true := by
    have hb := h.batch
    by_cases hl : l = []
    · rw [autoBatch, if_pos hl] at hb
      rw [hb, hd]
      rfl
    · rw [autoBatch, if_neg hl] at hb
      have hnone : t.memberOf a = none := by
        rw [State.memberOf, hb, List.find?_eq_none]
        intro m hm
        simp only [hd, reduceCtorEq, if_false, List.nil_append, List.mem_map] at hm
        obtain ⟨k, hk, rfl⟩ := hm
        have hka : k ≠ a := by rintro rfl; exact ha hk
        simpa [newMember] using hka
      rw [hnone, hb]
      rfl
  unfold State.autoRetires Adds
  simp only [hactive, h.stateOf a, State.roleOf, h.recordOf a, hcan]
  simp [ha]

/-- An addition to the batch touches neither accounts nor events nor ports (R118). -/
theorem batchAdd_rest (s : State) (i : SlotId) (force : Bool) :
    (s.batchAdd i force).power = s.power ∧ (s.batchAdd i force).attention = s.attention ∧
      (s.batchAdd i force).settings = s.settings ∧ (s.batchAdd i force).portA = s.portA ∧
      (s.batchAdd i force).portB = s.portB := by
  simp [State.batchAdd, State.setMemberFlag, State.openJoining]

/-- An addition sets the flag of its slot and drives lanes (R103, R118). -/
theorem batchAdd_bare (s : State) (i j : SlotId) (force : Bool) :
    bare ((s.batchAdd i force).slot j) = bare ((s.modRecord i fun r => { r with batchMember := true }).slot j) := by
  simp only [State.batchAdd, State.setMemberFlag, State.openJoining, setLinks_slot]
  rfl

theorem batchAdd_allOpen {s : State} {p h : SlotId} (i : SlotId) (force : Bool) (ho : AllOpen p h s) :
    AllOpen p h (s.batchAdd i force) := by
  unfold State.batchAdd State.setMemberFlag
  exact (laneStep_openJoining _ i).stays p h ho

/-- An addition to the batch, with the episode entry (R118, R164). -/
theorem Added.add {s t : State} {l : List SlotId} (h : Added s l t) (hd : s.batch.state = .done) (a : SlotId) :
    Added s (l ++ [a]) { t.batchAdd a false with episode := t.episode.enter a } := by
  obtain ⟨hstate, hwindow, hmembers, _⟩ := batchAdd_spec t a a false
  obtain ⟨hpower, hattention, hsettings, hportA, hportB⟩ := batchAdd_rest t a false
  constructor
  case batch =>
    have hb := h.batch
    have hne : l ++ [a] ≠ [] := by simp
    have heta : ∀ b : Batch, b = ⟨b.state, b.window, b.members⟩ := fun _ => rfl
    show (t.batchAdd a false).batch = _
    rw [heta (t.batchAdd a false).batch, hstate, hwindow, hmembers, h.settings, autoBatch, if_neg hne]
    by_cases hl : l = []
    · rw [autoBatch, if_pos hl] at hb
      rw [hb]
      simp [hd, hl, newMember]
    · rw [autoBatch, if_neg hl] at hb
      rw [hb]
      simp [hd, newMember]
  case episode => exact episodeEnters_enter h.episode
  case slot =>
    intro j
    have hj := h.slot j
    have hrec := h.recordOf j
    show bare ((t.batchAdd a false).slot j) = _
    rw [batchAdd_bare, modRecord_slot]
    by_cases hja : j = a
    · subst hja
      rw [if_pos rfl]
      rw [recordOf_eq] at hrec
      rw [hrec, bare_withRecord _ hj]
      simp
    · rw [if_neg hja, hj]
      have hc : (l ++ [a]).contains j = l.contains j := by simp [hja]
      rw [hc]
  case lanes => exact fun p q ho => batchAdd_allOpen a false (h.lanes p q ho)
  case power => exact hpower.trans h.power
  case attention => exact hattention.trans h.attention
  case settings => exact hsettings.trans h.settings
  case portA => exact hportA.trans h.portA
  case portB => exact hportB.trans h.portB

/-- Considering slots in turn adds those that wait to be added, and no other. -/
theorem added_walk (s : State) (hd : s.batch.state = .done) (hn : s.anyActive = false) (l : List SlotId)
    (hl : l.Nodup) : Added s (l.filter (Adds s)) (l.foldl State.considerSlot s) := by
  induction l using List.reverseRecOn with
  | nil => exact .nil s
  | append_singleton l a ih =>
    have hla := List.nodup_append.1 hl
    have hal : a ∉ l := fun h => hla.2.2 a h a (List.mem_singleton_self a) rfl
    have h := ih hla.1
    have hnot : a ∉ l.filter (Adds s) := fun hm => hal (List.mem_filter.1 hm).1
    rw [List.foldl_append, List.foldl_cons, List.foldl_nil, List.filter_append, State.considerSlot,
      h.autoRetires hd hn hnot]
    by_cases ha : Adds s a = true
    · rw [if_pos ha, List.filter_cons, if_pos ha]
      exact h.add hd a
    · rw [if_neg ha, List.filter_cons, if_neg ha, List.filter_nil, List.append_nil]
      exact h

/-- Every slot considered while no link is ACTIVE (R132). -/
theorem considerAll_added (s : State) (hd : s.batch.state = .done) (hn : s.anyActive = false) :
    Added s (autoSlots .done s) s.considerAll := by
  rw [autoSlots_done]
  exact added_walk s hd hn allSlots (by decide)

/-! ### What stays of the slot that left -/

/-- Of an EMPTY slot everything but its lane enables stays, its events, its absence from the PAU's lists, and every OPEN
entry. -/
structure Near (i : SlotId) (s t : State) : Prop where
  slot : bare (t.slot i) = bare (s.slot i)
  entries : ∀ c : SlotClass, t.attention.entry (.slot i c) = s.attention.entry (.slot i c)
  offWait : i ∉ s.power.waitList → i ∉ t.power.waitList
  offQueue : i ∉ s.power.permitQueue → i ∉ t.power.permitQueue
  offHolders : i ∉ s.power.holders → i ∉ t.power.holders
  lanes : ∀ p h : SlotId, AllOpen p h s → AllOpen p h t

theorem Spreads.near {i : SlotId} {s t : State} (h : Spreads i s t) : Near i s t where
  slot := h.slot
  entries := h.entries
  offWait := h.offWait
  offQueue := h.offQueue
  offHolders := h.offHolders
  lanes := h.lanes

theorem Near.trans {i : SlotId} {s t u : State} (h : Near i s t) (k : Near i t u) : Near i s u where
  slot := k.slot.trans h.slot
  entries c := (k.entries c).trans (h.entries c)
  offWait n := k.offWait (h.offWait n)
  offQueue n := k.offQueue (h.offQueue n)
  offHolders n := k.offHolders (h.offHolders n)
  lanes p q n := k.lanes p q (h.lanes p q n)

theorem Added.near {i : SlotId} {s t : State} {l : List SlotId} (h : Added s l t) (hi : i ∉ l) : Near i s t where
  slot := by rw [h.slot i]; simp [hi, State.recordOf]
  entries c := by rw [h.attention]
  offWait := by rw [h.power]; exact id
  offQueue := by rw [h.power]; exact id
  offHolders := by rw [h.power]; exact id
  lanes := h.lanes

theorem not_mem_autoSlots {i : SlotId} {s : State} (h : s.stateOf i ≠ .retirePending) : i ∉ autoSlots .done s := by
  rw [autoSlots_done, List.mem_filter]
  simp [Adds, h]

/-- An EMPTY slot is not added. -/
theorem near_considerAll {i : SlotId} {s : State} (hd : s.batch.state = .done) (hi : s.stateOf i = .empty) :
    Near i s s.considerAll := by
  by_cases hn : s.anyActive = true
  · rw [considerAll_active s hn]
    exact (Added.nil s).near List.not_mem_nil
  · exact (considerAll_added s hd (by simpa using hn)).near (not_mem_autoSlots (by simp [hi]))

end Sys2Proof.SlotLines
end

section
/-! A step whose hand-overs let no slot charge: members that drain may isolate and slots that wait may be added to the
batch, and every other slot stays (R121, R124, R132). -/

namespace Sys2Proof.SlotLines

open Sys2Proof Sys2Proof.Machine Sys2Proof.Laws Sys2Proof.Safety

/-- A hand-over that lets no slot charge: a drained report, a fault of a slot that has been backed off, and, where slots
may be added, their consideration. -/
def Idle (adds : Bool) (s : State) : Handover → Prop
  | .fault j => s.stateOf j = .queued
  | .drained _ => True
  | .presenceEdge _ => False
  | .considerAll => adds = true

/-- Nothing is posted, no grant and no permit passes, and a slot that does not drain keeps its record but for its member
flag, its power outputs and its list places; the batch stays unless slots may be added. -/
structure Stays (adds : Bool) (s t : State) : Prop where
  attention : t.attention = s.attention
  sum : t.power.sumOfGrants = s.power.sumOfGrants
  freeze : t.power.freeze = s.power.freeze
  batch : adds = false → t.batch = s.batch
  slot : ∀ j : SlotId, s.stateOf j ≠ .draining →
    t.recordOf j = { s.recordOf j with batchMember := (t.recordOf j).batchMember } ∧
      (t.slot j).out.preEn = (s.slot j).out.preEn ∧ (t.slot j).out.mainEn = (s.slot j).out.mainEn ∧
      (t.slot j).out.ilim = (s.slot j).out.ilim ∧ (t.slot j).out.led = (s.slot j).out.led
  wait : ∀ j : SlotId, j ∈ t.power.waitList → j ∈ s.power.waitList
  queue : ∀ j : SlotId, (j ∈ t.power.permitQueue → j ∈ s.power.permitQueue) ∧
    (s.stateOf j ≠ .draining → j ∈ s.power.permitQueue → j ∈ t.power.permitQueue)
  holders : ∀ j : SlotId, (j ∈ t.power.holders → j ∈ s.power.holders) ∧
    (s.stateOf j ≠ .draining → j ∈ s.power.holders → j ∈ t.power.holders)

/-- What stays inside a step: what is handed over lets no slot charge. -/
structure Still (adds : Bool) (v w : Work) : Prop extends Stays adds v.st w.st where
  todo : ∃ new : List Handover, w.todo = v.todo ++ new ∧ ∀ h ∈ new, Idle adds w.st h

theorem Stays.stateOf {b : Bool} {s t : State} (h : Stays b s t) {j : SlotId} (hj : s.stateOf j ≠ .draining) :
    t.stateOf j = s.stateOf j := by
  rw [stateOf_eq, (h.slot j hj).1, stateOf_eq]

theorem Stays.refl (b : Bool) (s : State) : Stays b s s where
  attention := rfl
  sum := rfl
  freeze := rfl
  batch _ := rfl
  slot _ _ := ⟨rfl, rfl, rfl, rfl, rfl⟩
  wait _ := id
  queue _ := ⟨id, fun _ => id⟩
  holders _ := ⟨id, fun _ => id⟩

theorem Still.refl (b : Bool) (w : Work) : Still b w w := { Stays.refl b w.st with todo := ⟨[], by simp, by simp⟩ }

theorem Still.idle {b : Bool} {v w : Work} (h : Still b v w) {x : Handover} (hx : Idle b v.st x) : Idle b w.st x := by
  cases x with
  | fault j =>
    have hq : v.st.stateOf j = .queued := hx
    exact (h.stateOf (by simp [hq])).trans hq
  | drained j => trivial
  | presenceEdge j => exact hx
  | considerAll => exact hx

theorem Stays.trans {b : Bool} {s t u : State} (h : Stays b s t) (k : Stays b t u) : Stays b s u where
  attention := k.attention.trans h.attention
  sum := k.sum.trans h.sum
  freeze := k.freeze.trans h.freeze
  batch n := (k.batch n).trans (h.batch n)
  slot j n := by
    obtain ⟨h1, h2, h3, h4, h5⟩ := h.slot j n
    obtain ⟨k1, k2, k3, k4, k5⟩ := k.slot j (by rw [h.stateOf n]; exact n)
    exact ⟨k1.trans (by rw [h1]), k2.trans h2, k3.trans h3, k4.trans h4, k5.trans h5⟩
  wait j n := h.wait j (k.wait j n)
  queue j := ⟨fun n => (h.queue j).1 ((k.queue j).1 n), fun n m =>
    (k.queue j).2 (by rw [h.stateOf n]; exact n) ((h.queue j).2 n m)⟩
  holders j := ⟨fun n => (h.holders j).1 ((k.holders j).1 n), fun n m =>
    (k.holders j).2 (by rw [h.stateOf n]; exact n) ((h.holders j).2 n m)⟩

theorem Still.trans {b : Bool} {u v w : Work} (h : Still b u v) (k : Still b v w) : Still b u w :=
  { h.toStays.trans k.toStays with
    todo := by
      obtain ⟨new, hnew, hm⟩ := h.todo
      obtain ⟨more, hmore, km⟩ := k.todo
      refine ⟨new ++ more, by rw [hmore, hnew, List.append_assoc], fun x hx => ?_⟩
      rcases List.mem_append.1 hx with hx | hx
      · exact k.idle (hm x hx)
      · exact km x hx }

theorem still_lanes {b : Bool} {w : Work} {f : State → State} (h : SameButLanes w.st (f w.st)) :
    Still b w (w.on f) := by
  have hpow : (w.on f).st.power = w.st.power := power_of_lanes h
  have hbatch : (w.on f).st.batch = w.st.batch := (sameShelf_of_lanes h).2.1
  refine ⟨⟨attention_of_lanes h, by rw [hpow], by rw [hpow], fun _ => hbatch, fun j _ => ?_,
    fun j => by rw [hpow]; exact id, fun j => by rw [hpow]; exact ⟨id, fun _ => id⟩,
    fun j => by rw [hpow]; exact ⟨id, fun _ => id⟩⟩, ⟨[], by simp, by simp⟩⟩
  obtain ⟨h1, _, _, h2, h3, h4, h5, _⟩ := h.1 j
  exact ⟨by rw [on_st, h1], h2, h3, h4, h5⟩

theorem still_hand {b : Bool} {w : Work} {hs : List Handover} (h : ∀ x ∈ hs, Idle b w.st x) : Still b w (w.hand hs) :=
  { Still.refl b w with
    todo := ⟨hs, rfl, h⟩
    slot := fun _ _ => ⟨rfl, rfl, rfl, rfl, rfl⟩, wait := fun _ => id, queue := fun _ => ⟨id, fun _ => id⟩
    holders := fun _ => ⟨id, fun _ => id⟩, batch := fun _ => rfl }

/-- A draining member moves to ISOLATING: it was on no list that counts, and nothing is turned ON (R124). -/
theorem still_enterIsolating {b : Bool} {w : Work} {j : SlotId} (hj : w.st.stateOf j = .draining)
    (ho : OutputsFollow w.st) : Still b w (w.enter j .isolating none) := by
  have hmem := fun k => enter_mem w.st j k .isolating none
  have other : ∀ k : SlotId, w.st.stateOf k ≠ .draining → k ≠ j := by rintro k hk rfl; exact hk hj
  have hover : (w.st.slot j).handsOver j .isolating = [] :=
    handsOver_nil _ _ _ (.inr (turnsOn_isolating ho hj)) (.inl rfl)
  refine ⟨⟨rfl, rfl, rfl, fun _ => rfl, fun k hk => ?_, fun k hk => ?_, fun k => ⟨fun hk => ?_, fun hs hk => ?_⟩,
    fun k => ⟨fun hk => ?_, fun hs hk => ?_⟩⟩, ⟨[], by rw [work_enter_todo, hover], by simp⟩⟩
  · rw [work_enter_st, enter_recordOf, enter_slot, if_neg (other k hk), if_neg (other k hk)]
    exact ⟨rfl, rfl, rfl, rfl, rfl⟩
  · rw [work_enter_st, (hmem k).1] at hk
    split at hk
    · exact absurd hk (by decide)
    · exact hk
  · rw [work_enter_st, (hmem k).2.1] at hk
    split at hk
    · exact absurd hk (by decide)
    · exact hk
  · rwa [work_enter_st, (hmem k).2.1, if_neg (other k hs)]
  · rw [work_enter_st, (hmem k).2.2] at hk
    split at hk
    · exact absurd hk (by decide)
    · exact hk
  · rwa [work_enter_st, (hmem k).2.2, if_neg (other k hs)]

theorem still_isolate {b : Bool} {w : Work} {j : SlotId} (hj : w.st.stateOf j = .draining) (ho : OutputsFollow w.st) :
    Still b w (w.isolate j) := by
  rw [isolate_eq j w hj]
  have hlanes : Still b (w.enter j .isolating none) ((w.enter j .isolating none).openIsolating j) := by
    refine (still_lanes (openTouching_same _ j _)).trans (still_hand fun x hx => ?_)
    obtain ⟨k, _, rfl⟩ := List.mem_map.1 hx
    trivial
  exact ((still_enterIsolating hj ho).trans hlanes).trans (still_lanes (offer_same _ _ _))

/-- The consideration of a slot changes member flags, the batch, the episode and lanes (R132, R164). -/
theorem considerSlot_flags (s : State) (a : SlotId) :
    (s.considerSlot a).power = s.power ∧ (s.considerSlot a).attention = s.attention ∧
      ∀ j : SlotId, ∃ m : Bool,
        bare ((s.considerSlot a).slot j) = bare { s.slot j with record := { s.recordOf j with batchMember := m } } := by
  unfold State.considerSlot
  split
  · obtain ⟨hpower, hattention, _⟩ := batchAdd_rest s a false
    have hbare := fun j => batchAdd_bare s a j false
    generalize s.batchAdd a false = b at hpower hattention hbare ⊢
    refine ⟨hpower, hattention, fun j => ?_⟩
    have hj := hbare j
    rw [modRecord_slot] at hj
    split at hj
    · rename_i h; rw [← h] at hj; exact ⟨true, hj⟩
    · exact ⟨(s.recordOf j).batchMember, hj⟩
  · exact ⟨rfl, rfl, fun j => ⟨(s.recordOf j).batchMember, rfl⟩⟩

/-- No consideration moves a slot. -/
theorem considerSlots_stateOf (j : SlotId) :
    ∀ (l : List SlotId) (s : State), (l.foldl State.considerSlot s).stateOf j = s.stateOf j
  | [], _ => rfl
  | a :: l, s => by
    obtain ⟨m, hm⟩ := (considerSlot_flags s a).2.2 j
    have hrec : (s.considerSlot a).recordOf j = { s.recordOf j with batchMember := m } := bare_record hm
    have hone : (s.considerSlot a).stateOf j = s.stateOf j := by rw [stateOf_eq, hrec, stateOf_eq]
    exact (considerSlots_stateOf j l _).trans hone

theorem considerAll_stateOf (s : State) (j : SlotId) : s.considerAll.stateOf j = s.stateOf j := by
  rw [State.considerAll]
  exact considerSlots_stateOf j _ s

theorem still_considerSlots : ∀ (l : List SlotId) (w : Work), Still true w (w.on fun s => l.foldl State.considerSlot s)
  | [], w => .refl true w
  | a :: l, w => by
    have hone : Still true w (w.on fun s => s.considerSlot a) := by
      obtain ⟨hpower, hattention, hslot⟩ := considerSlot_flags w.st a
      refine ⟨⟨hattention, congrArg _ hpower, congrArg _ hpower, fun h => absurd h (by decide), fun j _ => ?_,
        fun j => ?_, fun j => ?_, fun j => ?_⟩, ⟨[], by simp, by simp⟩⟩
      · obtain ⟨m, hm⟩ := hslot j
        have hrec : (w.st.considerSlot a).recordOf j = { w.st.recordOf j with batchMember := m } := bare_record hm
        have hout := bare_out hm
        rw [on_st, hrec]
        exact ⟨rfl, hout⟩
      all_goals rw [on_st, hpower]
      · exact id
      · exact ⟨id, fun _ => id⟩
      · exact ⟨id, fun _ => id⟩
    exact hone.trans (still_considerSlots l (w.on fun s => s.considerSlot a))

/-- A hand-over that lets no slot charge. -/
theorem still_take {b : Bool} {w : Work} {h : Handover} (ho : OutputsFollow w.st) (hm : Idle b w.st h) :
    Still b w (Work.take h w) := by
  cases h with
  | fault j =>
    have hq : w.st.stateOf j = .queued := hm
    have hno : w.faultAsserted j = w := by
      unfold Work.faultAsserted
      rw [hq]
      rfl
    rw [take_fault, hno]
    exact .refl b w
  | drained j =>
    rw [take_drained]
    rcases drained_cases j w with ⟨hj, _, hw⟩ | ⟨_, hw⟩
    · rw [hw]; exact still_isolate hj ho
    · rw [hw]; exact .refl b w
  | presenceEdge j => exact hm.elim
  | considerAll =>
    have hb : b = true := hm
    subst hb
    exact still_considerSlots allSlots w

/-- A step whose hand-overs let no slot charge. -/
theorem still_settle {b : Bool} : ∀ (n : Nat) (w : Work), OutputsFollow w.st → (∀ h ∈ w.todo, Idle b w.st h) →
    Stays b w.st (settle n w)
  | 0, w, _, _ => .refl b _
  | n + 1, w, ho, hm => by
    unfold settle
    split
    · exact .refl b _
    · rename_i h rest htodo
      rw [htodo] at hm
      have hs : Still b { w with todo := rest } (Work.take h { w with todo := rest }) :=
        still_take ho (hm h List.mem_cons_self)
      obtain ⟨new, hnew, hidle⟩ := hs.todo
      refine hs.toStays.trans
        (still_settle n _ (outputsFollow_kept.take (w := { w with todo := rest }) h ho) fun x hx => ?_)
      rw [hnew] at hx
      rcases List.mem_append.1 hx with hx | hx
      · exact hs.idle (hm x (List.mem_cons_of_mem _ hx))
      · exact hidle x hx

end Sys2Proof.SlotLines
end

section
/-! The extraction itself (R137, R138), and what the PAU passes on when it is told (R64, R69, R72). -/

namespace Sys2Proof.SlotLines

open Sys2Proof Sys2Proof.Machine Sys2Proof.Laws Sys2Proof.Safety

/-! ### The slot leaves -/

/-- The extraction up to the move: the filter has settled, the slot's entries are opened, and it is EMPTY (R106,
R138). -/
def gone (i : SlotId) (s : State) : Work :=
  ((Work.start (s.modCond i fun c => { c with loss := none, present := false })).openLost i).enter i .empty none

/-- What the move to EMPTY leaves. -/
structure Gone (i : SlotId) (s : State) (w : Work) : Prop where
  record : w.st.recordOf i = (s.recordOf i).enter s.settings .empty none
  cond : (w.st.slot i).cond.present = false ∧ (w.st.slot i).cond.loss = none
  shows : Shows i false false 0 .off w.st
  noWork : NoWork i w.st
  lanes : LanesOpen i w.st
  others : OthersKeep i s w.st
  shelf : SameShelf s w.st
  attention : w.st.attention = s.attention
  power : w.st.power =
    { s.power with
      sumOfGrants := s.power.sumOfGrants - (s.recordOf i).reservedGrant
      waitList := without i s.power.waitList
      permitQueue := without i s.power.permitQueue
      holders := without i s.power.holders }
  todo : ∃ l : List SlotId, w.todo = l.map .drained ∧ l.length ≤ 256 ∧ ∀ j ∈ l, s.stateOf j = .draining
  outputs : OutputsFollow w.st

/-- Each pair of slots once: at most 256 entries (R95). -/
theorem pairsOnce_length {s : State} (h : PairsOnce s) : s.links.length ≤ 256 := by
  have hcard := List.Nodup.length_le_card h
  simpa using hcard

/-- An engine that drops its conversation and its identity read holds no work (R94). -/
theorem follow_empty (old : SlotState) (ntfyL : Level) (c : Channel) :
    (Channel.follow old .empty ntfyL c).transfer = none ∧ (Channel.follow old .empty ntfyL c).identityDue = false ∧
      (Channel.follow old .empty ntfyL c).noticePending = false ∧ (Channel.follow old .empty ntfyL c).cueQueue = [] ∧
      (Channel.follow old .empty ntfyL c).pause = none := by
  have hfollow : Channel.follow old .empty ntfyL c = c.dropConversation.dropIdentity.choose := by
    simp [Channel.follow, dropsConversation, SlotState.dropsIdentity, SlotState.conversing]
  have htransfer : c.dropConversation.dropIdentity.transfer = none := by
    unfold Channel.dropIdentity Channel.dropConversation
    cases h : c.readsIdentity
    · simp [Channel.readsIdentity]
    · simp only [Channel.readsIdentity, if_true] at h ⊢
      rw [h]
      rfl
  rw [hfollow, choose_idle _ rfl rfl rfl]
  exact ⟨htransfer, rfl, rfl, rfl, rfl⟩

theorem gone_spec (i : SlotId) (s : State) (hp : (s.slot i).lines.presL = .high) (hd : (s.stateOf i).debounces = false)
    (ho : OutputsFollow s) (h1 : PairsOnce s) : Gone i s (gone i s) := by
  let u := s.modCond i fun c => { c with loss := none, present := false }
  let wa := (Work.start u).openLost i
  have hlane : LaneStep u wa.st := laneStep_openTouching _ i (Work.start u)
  have hsame := hlane.same
  have hrecord : ∀ j, wa.st.recordOf j = s.recordOf j := fun j => by
    rw [recordOf_of_lanes hsame, modCond_recordOf]
  have hpower : wa.st.power = s.power := (power_of_lanes hsame).trans (modCond_power ..)
  have hsettings : wa.st.settings = s.settings := (sameShelf_of_lanes hsame).1
  obtain ⟨_, hlines, hcond, _, _, _, _, _, _⟩ := hsame.1 i
  have hgone : gone i s = wa.enter i .empty none := rfl
  have hnone : (wa.st.slot i).handsOver i .empty = [] := by
    refine handsOver_nil i .empty _ (.inr (turnsOn_off .empty _ _ rfl rfl)) (.inr (.inr ?_))
    rw [hcond, hlines]
    simp [u, hp]
  rw [hgone]
  constructor
  case record => rw [work_enter_st, enter_recordOf, if_pos rfl, hrecord, hsettings]
  case cond =>
    have hold : (wa.st.slot i).record.state.debounces = false := by rw [← recordOf_eq, hrecord]; exact hd
    have hnew : SlotState.empty.debounces = true := rfl
    have hpres : (wa.st.slot i).cond.present = false := by rw [hcond]; simp [u]
    rw [work_enter_st, enter_slot, if_pos rfl]
    simp only [Slot.enter, Conditioning.follow, hold, hnew, Bool.false_and, Bool.not_false, Bool.true_and, if_true,
      Bool.false_eq_true, if_false]
    exact ⟨hpres, trivial⟩
  case shows => exact enter_shows_off wa.st i .empty none rfl rfl
  case noWork =>
    have hchan : ((wa.enter i .empty none).st.slot i).chan =
        Channel.follow (wa.st.slot i).record.state .empty (wa.st.slot i).lines.ntfyL (wa.st.slot i).chan := by
      rw [work_enter_st, enter_slot, if_pos rfl]
      rfl
    rw [NoWork, hchan]
    exact follow_empty _ _ _
  case lanes => exact openTouching_lanesOpen _ i (Work.start u) h1
  case others =>
    exact OthersKeep.trans
      (OthersKeep.trans (OthersKeep.of_only (otherSlots_modSlot s i _)) (OthersKeep.of_lanes i hsame))
      (OthersKeep.of_only (onlySlot_enter wa.st i .empty none).1)
  case shelf =>
    exact SameShelf.trans (onlySlot_modSlot s i _).2.1
      (SameShelf.trans (sameShelf_of_lanes hsame) (onlySlot_enter wa.st i .empty none).2.1)
  case attention => exact (attention_of_lanes hsame).trans (modCond_attention ..)
  case power =>
    rw [work_enter_st, enter_power, hrecord, hpower]
    simp [PowerAccounts.follow, PowerAccounts.releaseGrant, SlotState.releasesGrant]
  case todo =>
    refine ⟨((u.links.filter fun e => e.touches i && e.linkState.switched).map (·.otherEnd i)).filter fun j =>
      wa.st.stateOf j == .draining && wa.st.isDrained j, ?_, ?_, fun j hj => ?_⟩
    · rw [work_enter_todo, hnone, List.append_nil]
      rfl
    · calc _ ≤ ((u.links.filter fun e => e.touches i && e.linkState.switched).map (·.otherEnd i)).length :=
            List.length_filter_le _ _
        _ ≤ u.links.length := by rw [List.length_map]; exact List.length_filter_le _ _
        _ ≤ 256 := pairsOnce_length (s := u) h1
    · have hdrain := (List.mem_filter.1 hj).2
      simp only [Bool.and_eq_true, beq_iff_eq] at hdrain
      rw [stateOf_eq, hrecord, ← stateOf_eq] at hdrain
      exact hdrain.1
  case outputs =>
    exact outputsFollow_kept.enter _ i .empty none
      (outputsFollow_kept.openTouching i _ (outputsFollow_kept.modCond i _ ho))

/-! ### What the PAU passes on -/

/-- The PAU has acted on a move: it gave grants and permits, and nothing but BUDGET was posted. A slot given a permit
may be in fault. -/
structure Reacted (v w : Work) : Prop where
  batch : w.st.batch = v.st.batch
  shelf : w.st.shelf = v.st.shelf
  settings : w.st.settings = v.st.settings
  freeze : w.st.power.freeze = v.st.power.freeze
  entries : ∀ k : EventKey, k ≠ .shelf .budget → w.st.attention.entry k = v.st.attention.entry k
  charging : ∀ j : SlotId, v.st.stateOf j = .charging → w.st.slot j = v.st.slot j ∧
    (j ∈ v.st.power.holders → j ∈ w.st.power.holders)
  follows : (∀ j : SlotId, j ∈ v.st.power.holders ↔ v.st.stateOf j = .charging) →
    ∀ j : SlotId, j ∈ w.st.power.holders ↔ w.st.stateOf j = .charging
  todo : ∃ new : List SlotId, w.todo = v.todo ++ new.map .fault ∧ new.Nodup ∧
    ∀ j ∈ new, w.st.stateOf j = .charging ∧ j ∈ w.st.power.holders
  held : v.st.power.freeze = true → w.todo = v.todo

theorem Reacted.refl (w : Work) : Reacted w w where
  batch := rfl
  shelf := rfl
  settings := rfl
  freeze := rfl
  entries _ _ := rfl
  charging _ _ := ⟨rfl, id⟩
  follows := id
  todo := ⟨[], by simp, by simp, by simp⟩
  held _ := rfl

/-- A change of the state that moves no slot, touches none that charges and leaves the holders. -/
theorem Reacted.quiet {v w : Work} {f : State → State} (h : Reacted v w)
    (hstate : ∀ j : SlotId, (f w.st).stateOf j = w.st.stateOf j)
    (hslot : ∀ j : SlotId, w.st.stateOf j = .charging → (f w.st).slot j = w.st.slot j)
    (hbatch : (f w.st).batch = w.st.batch) (hshelf : (f w.st).shelf = w.st.shelf)
    (hsettings : (f w.st).settings = w.st.settings) (hfreeze : (f w.st).power.freeze = w.st.power.freeze)
    (hholders : (f w.st).power.holders = w.st.power.holders)
    (hentries : ∀ k : EventKey, k ≠ .shelf .budget → (f w.st).attention.entry k = w.st.attention.entry k) :
    Reacted v (w.on f) := by
  constructor
  case batch => exact hbatch.trans h.batch
  case shelf => exact hshelf.trans h.shelf
  case settings => exact hsettings.trans h.settings
  case freeze => exact hfreeze.trans h.freeze
  case entries => exact fun k hk => (hentries k hk).trans (h.entries k hk)
  case charging =>
    intro j hj
    obtain ⟨hs, hin⟩ := h.charging j hj
    rw [on_st, hholders, hslot j (by rw [stateOf_eq, recordOf_eq, hs]; exact hj)]
    exact ⟨hs, hin⟩
  case follows =>
    intro hf j
    rw [on_st, hstate, hholders]
    exact h.follows hf j
  case todo =>
    obtain ⟨new, hnew, hn, hm⟩ := h.todo
    refine ⟨new, hnew, hn, fun j hj => ?_⟩
    rw [on_st, hstate, hholders]
    exact hm j hj
  case held => exact h.held

/-- A move to a state that turns no enable ON, of a slot that does not charge. -/
theorem Reacted.enterQueued {v w : Work} {j : SlotId} (h : Reacted v w) (hj : w.st.stateOf j ≠ .charging) :
    Reacted v (w.enter j .queued none) := by
  have hmem := fun k => (enter_mem w.st j k .queued none).2.2
  have hover : (w.st.slot j).handsOver j .queued = [] := handsOver_off j .queued _ rfl rfl (.inl rfl)
  have other : ∀ k, w.st.stateOf k = .charging → k ≠ j := by rintro k hk rfl; exact hj hk
  constructor
  case batch => exact h.batch
  case shelf => exact h.shelf
  case settings => exact h.settings
  case freeze => exact h.freeze
  case entries => exact h.entries
  case charging =>
    intro k hk
    obtain ⟨hslot, hhold⟩ := h.charging k hk
    have hkj : k ≠ j := other k (by rw [stateOf_eq, recordOf_eq, hslot]; exact hk)
    rw [work_enter_st, enter_slot, if_neg hkj, hmem, if_neg hkj]
    exact ⟨hslot, hhold⟩
  case follows =>
    intro hf k
    rw [work_enter_st, hmem, enter_stateOf]
    split
    · exact ⟨fun e => absurd e (by decide), fun e => absurd e (by decide)⟩
    · exact h.follows hf k
  case todo =>
    obtain ⟨new, hnew, hn, hm⟩ := h.todo
    refine ⟨new, by rw [work_enter_todo, hover, List.append_nil, hnew], hn, fun k hk => ?_⟩
    obtain ⟨hc, hin⟩ := hm k hk
    rw [work_enter_st, enter_stateOf, hmem, if_neg (other k hc), if_neg (other k hc)]
    exact ⟨hc, hin⟩
  case held => exact fun hf => by rw [work_enter_todo, hover, List.append_nil]; exact h.held hf

/-- A permit given under no freeze. -/
theorem Reacted.enterCharging {v w : Work} {j : SlotId} (h : Reacted v w) (hj : w.st.stateOf j = .queued)
    (hfree : w.st.power.freeze = false) : Reacted v (w.enter j .charging none) := by
  have hmem := fun k => (enter_mem w.st j k .charging none).2.2
  have other : ∀ k, w.st.stateOf k = .charging → k ≠ j := by
    rintro k hk rfl
    rw [hj] at hk
    exact absurd hk (by decide)
  constructor
  case batch => exact h.batch
  case shelf => exact h.shelf
  case settings => exact h.settings
  case freeze => exact h.freeze
  case entries => exact h.entries
  case charging =>
    intro k hk
    obtain ⟨hslot, hhold⟩ := h.charging k hk
    have hkj : k ≠ j := other k (by rw [stateOf_eq, recordOf_eq, hslot]; exact hk)
    rw [work_enter_st, enter_slot, if_neg hkj, hmem, if_neg hkj]
    exact ⟨hslot, hhold⟩
  case follows =>
    intro hf k
    rw [work_enter_st, hmem, enter_stateOf]
    split
    · exact ⟨fun _ => rfl, fun _ => rfl⟩
    · exact h.follows hf k
  case todo =>
    obtain ⟨new, hnew, hn, hm⟩ := h.todo
    have hstill : ∀ k ∈ new, (w.enter j .charging none).st.stateOf k = .charging ∧
        k ∈ (w.enter j .charging none).st.power.holders := by
      intro k hk
      obtain ⟨hc, hin⟩ := hm k hk
      rw [work_enter_st, enter_stateOf, hmem, if_neg (other k hc), if_neg (other k hc)]
      exact ⟨hc, hin⟩
    have hself : (w.enter j .charging none).st.stateOf j = .charging ∧
        j ∈ (w.enter j .charging none).st.power.holders := by
      rw [work_enter_st, enter_stateOf, hmem, if_pos rfl, if_pos rfl]
      exact ⟨rfl, rfl⟩
    have hedge : ∀ old p c, edgeOnEntry old .charging p c = false := fun old p c => by
      simp [edgeOnEntry, SlotState.debounces]
    rw [work_enter_todo, hnew, Slot.handsOver, hedge]
    split
    · refine ⟨new ++ [j], by simp, ?_, fun k hk => ?_⟩
      · rw [List.nodup_append]
        refine ⟨hn, by simp, fun a ha b hb => ?_⟩
        rw [List.mem_singleton.1 hb]
        exact other a (hm a ha).1
      · rcases List.mem_append.1 hk with hk | hk
        · exact hstill k hk
        · rw [List.mem_singleton.1 hk]; exact hself
    · exact ⟨new, by simp, hn, hstill⟩
  case held => exact fun hf => by rw [h.freeze, hf] at hfree; exact absurd hfree (by decide)

/-- What the PAU does when a grant is released, a head leaves or a permit is released (R64, R69, R72). -/
theorem reacted_passedOn (v : Work) : PassedOn (Reacted v) where
  clear w h := by
    have hclear := clearDeficit_cases w.st
    refine h.quiet (fun j => ?_) (fun j _ => ?_) ?_ ?_ ?_ ?_ ?_ fun k hk => ?_
    all_goals
      rcases hclear with ⟨_, _, hc⟩ | ⟨_, hc⟩
      all_goals rw [hc]
    case refine_8.inl =>
      show (State.post _ _ _).attention.entry k = _
      rw [post_entry, if_neg hk]
      rfl
    all_goals rfl
  letIn w j hj h := by
    have hspec := fun k => reserve_spec w.st j k
    have hres : Reacted v (w.on (State.reserve j)) := by
      refine h.quiet (fun k => ?_) (fun k hk => ?_) rfl rfl rfl ?_ ?_ fun _ _ => rfl
      · rw [stateOf_eq, (hspec k).1]
        split
        · rename_i hkj; rw [hkj]; rfl
        · rfl
      · have hkj : k ≠ j := by rintro rfl; rw [hj] at hk; exact absurd hk (by decide)
        rw [State.reserve, modPower_slot, modRecord_slot, if_neg hkj]
      · rw [(hspec j).2.1]
      · rw [(hspec j).2.1]
    refine hres.enterQueued ?_
    rw [on_st, stateOf_eq, (hspec j).1, if_pos rfl]
    rw [stateOf_eq] at hj
    simp [hj]
  offWait w j h := h.quiet (fun _ => rfl) (fun _ _ => rfl) rfl rfl rfl rfl rfl fun _ _ => rfl
  permit w j hj hn h := h.enterCharging hj (nextPermit_some _ _ hn).2.2.2.2
  offQueue w j h := h.quiet (fun _ => rfl) (fun _ _ => rfl) rfl rfl rfl rfl rfl fun _ _ => rfl

theorem reacted_react (w : Work) (f : MoveFacts) : Reacted w (w.react f) := (reacted_passedOn w).react f w (.refl w)

end Sys2Proof.SlotLines
end

section
/-! The batch told of an extraction (R126, R127), and the posting that ends its flow (R137, R138, R143). -/

namespace Sys2Proof.SlotLines

open Sys2Proof Sys2Proof.Machine Sys2Proof.Laws Sys2Proof.Safety

/-! ### The batch is told -/

theorem canEnd_iff (b : BatchState) : b.canEnd = true ↔ b ∈ [BatchState.running, .holding, .abandoning] := by
  cases b <;> simp [BatchState.canEnd]

theorem given_members (i : SlotId) (o : MemberOutcome) (w : Work) :
    (given i o w).st.batch.members =
      w.st.batch.members.map fun m => if m.slot == i then { m with outcome := some o } else m := rfl

/-- After an outcome is given the batch can end, with every outcome there, where the slot was the last without one
(R127). -/
theorem given_lastOpen (i : SlotId) (o : MemberOutcome) (w : Work) :
    ((given i o w).st.batch.state.canEnd = true ∧ ∀ m ∈ (given i o w).st.batch.members, m.outcome.isSome = true) ↔
      LastOpen i w.st := by
  rw [canEnd_iff, given_members, LastOpen]
  refine and_congr Iff.rfl ?_
  simp only [List.mem_map, forall_exists_index, and_imp, forall_apply_eq_imp_iff₂]
  refine forall_congr' fun m => forall_congr' fun _ => ?_
  by_cases h : m.slot = i <;> simp [h]

/-- An outcome that is no failure makes the batch fail where another slot has failed (R127). -/
theorem given_fails (i : SlotId) (w : Work) :
    ((given i .extracted w).st.batch.members.any fun m => m.outcome.any MemberOutcome.fails) = true ↔
      OthersFailed i w.st := by
  have hfails : ∀ m : Member, m.outcome.any MemberOutcome.fails = true ↔
      m.outcome ∈ [some MemberOutcome.stuck, some .faulted, some .drainTimeout] := by
    rintro ⟨_, _, _, _, o⟩
    cases o with
    | none => simp
    | some o => cases o <;> simp [MemberOutcome.fails]
  rw [given_members, List.any_eq_true, OthersFailed]
  constructor
  · rintro ⟨m, hm, hf⟩
    obtain ⟨m', hm', rfl⟩ := List.mem_map.1 hm
    by_cases h : m'.slot = i
    · simp [h, MemberOutcome.fails] at hf
    · simp only [beq_iff_eq, h, if_false] at hf
      exact ⟨m', hm', h, (hfails m').1 hf⟩
  · rintro ⟨m, hm, h, hf⟩
    refine ⟨m, List.mem_map.2 ⟨m, hm, by simp [h]⟩, (hfails m).2 hf⟩

/-- What the Batch Engine has done when told that a slot is EMPTY. -/
structure Told (i : SlotId) (v w : Work) : Prop where
  others : ∀ j : SlotId, j ≠ i → w.st.slot j = v.st.slot j
  self : ∃ flag : Bool, w.st.slot i = { v.st.slot i with record := { v.st.recordOf i with batchMember := flag } }
  power : w.st.power = v.st.power
  links : w.st.links = v.st.links
  settings : w.st.settings = v.st.settings
  portA : w.st.portA = v.st.portA
  portB : w.st.portB = v.st.portB
  episode : w.st.episode = v.st.episode
  entries : ∀ k : EventKey, k ≠ .shelf .batchEnd → w.st.attention.entry k = v.st.attention.entry k
  closed : v.st.openMember i = false → w = v
  member : ∀ m : Member, v.st.memberOf i = some m → m.outcome = none →
    w.st.memberOf i = some { m with outcome := some .extracted } ∧ (w.st.recordOf i).batchMember = false
  goesOn : ¬ LastOpen i v.st → w.st.batch.state = v.st.batch.state ∧ w.todo = v.todo ∧
    w.st.attention.entry (.shelf .batchEnd) = v.st.attention.entry (.shelf .batchEnd)
  ends : v.st.openMember i = true → LastOpen i v.st → ∃ fault : Bool, (fault = true ↔ OthersFailed i v.st) ∧
    w.st.batch.state = (if fault = true then .doneFault else .done) ∧
    (∀ m ∈ w.st.batch.members, m.outcome.isSome = true) ∧
    w.st.attention.entry (.shelf .batchEnd) =
      ⟨true, (v.st.attention.entry (.shelf .batchEnd)).pending, some (.batchEnd fault)⟩ ∧
    w.todo = v.todo ++ if fault = true then [] else [.considerAll]

theorem openMember_of_none {s : State} {i : SlotId} {m : Member} (hm : s.memberOf i = some m) (ho : m.outcome = none) :
    s.openMember i = true := by
  rw [State.openMember, hm]
  simp [ho]

theorem given_member {i : SlotId} {o : MemberOutcome} {w : Work} {m : Member} (hm : w.st.memberOf i = some m) :
    (given i o w).st.memberOf i = some { m with outcome := some o } ∧
      ((given i o w).st.recordOf i).batchMember = false := by
  refine ⟨?_, by rw [given, on_st, modRecord_recordOf, if_pos rfl]⟩
  show (w.st.modMember i fun m => { m with outcome := some o }).memberOf i = _
  rw [modMember_memberOf w.st i i (fun m => { m with outcome := some o }) fun _ => rfl, if_pos rfl, hm]
  rfl

/-- The Batch Engine told of an extraction. -/
theorem told_spec (i : SlotId) (v : Work) (hi : v.st.stateOf i = .empty) : Told i v (v.memberMoved i) := by
  by_cases hopen : v.st.openMember i = true
  case neg =>
    have hclosed : v.st.openMember i = false := by simpa using hopen
    rw [memberMoved_none i v (.inl hclosed)]
    exact
      { others := fun _ _ => rfl
        self := ⟨(v.st.recordOf i).batchMember, rfl⟩
        power := rfl, links := rfl, settings := rfl, portA := rfl, portB := rfl, episode := rfl
        entries := fun _ _ => rfl
        closed := fun _ => rfl
        member := fun m hm ho => absurd (openMember_of_none hm ho) hopen
        goesOn := fun _ => ⟨rfl, rfl, rfl⟩
        ends := fun h => absurd h hopen }
  rw [memberMoved_open hopen (by rw [hi]; rfl)]
  have hmember := fun (m : Member) (hm : v.st.memberOf i = some m) => given_member (o := .extracted) hm
  have hlast := given_lastOpen i .extracted v
  have hfails := given_fails i v
  have hslot : ∀ j, (given i .extracted v).st.slot j =
      if j = i then { v.st.slot i with record := { v.st.recordOf i with batchMember := false } } else v.st.slot j :=
    fun j => by rw [given, on_st, modRecord_slot]; rfl
  have hrest : (given i .extracted v).st.power = v.st.power ∧ (given i .extracted v).st.links = v.st.links ∧
      (given i .extracted v).st.settings = v.st.settings ∧ (given i .extracted v).st.portA = v.st.portA ∧
      (given i .extracted v).st.portB = v.st.portB ∧ (given i .extracted v).st.episode = v.st.episode ∧
      (given i .extracted v).st.attention = v.st.attention ∧
      (given i .extracted v).st.batch.state = v.st.batch.state ∧ (given i .extracted v).todo = v.todo :=
    ⟨rfl, rfl, rfl, rfl, rfl, rfl, rfl, rfl, rfl⟩
  generalize given i .extracted v = u at hmember hlast hfails hslot hrest ⊢
  obtain ⟨hpower, hlinks, hsettings, hportA, hportB, hepisode, hatt, hstate, htodo⟩ := hrest
  rcases batchEnd_cases u with ⟨hcan, hall, fault, hfault, hst, htd⟩ | ⟨hno, hend⟩
  · have hentry : ∀ k, u.batchEnd.st.attention.entry k =
        if k = .shelf .batchEnd then ⟨true, (v.st.attention.entry (.shelf .batchEnd)).pending, some (.batchEnd fault)⟩
        else v.st.attention.entry k := by
      intro k
      rw [hst, ← hatt]
      show (State.post _ _ _).attention.entry k = _
      rw [post_entry]
      rfl
    have hmem : ∀ j, u.batchEnd.st.memberOf j = u.st.memberOf j := fun j => by rw [hst]; rfl
    have hsl : ∀ j, u.batchEnd.st.slot j = u.st.slot j := fun j => by rw [hst]; rfl
    exact
      { others := fun j hj => by rw [hsl, hslot, if_neg hj]
        self := ⟨false, by rw [hsl, hslot, if_pos rfl]⟩
        power := by rw [hst]; exact hpower
        links := by rw [hst]; exact hlinks
        settings := by rw [hst]; exact hsettings
        portA := by rw [hst]; exact hportA
        portB := by rw [hst]; exact hportB
        episode := by rw [hst]; exact hepisode
        entries := fun k hk => by rw [hentry, if_neg hk]
        closed := fun h => by rw [hopen] at h; exact absurd h (by decide)
        member := fun m hm _ => by rw [hmem, recordOf_eq, hsl, ← recordOf_eq]; exact hmember m hm
        goesOn := fun h => absurd (hlast.1 ⟨hcan, hall⟩) h
        ends := fun _ _ => ⟨fault, by rw [hfault]; exact hfails, by rw [hst]; rfl, by rw [hst]; exact hall,
          by rw [hentry, if_pos rfl], by rw [htd, htodo]⟩ }
  · have hnot : ¬ LastOpen i v.st := fun h => by
      obtain ⟨hc, hall⟩ := hlast.2 h
      rcases hno with hno | ⟨m, hm, ho⟩
      · rw [hc] at hno; exact absurd hno (by decide)
      · have := hall m hm
        rw [ho] at this
        exact absurd this (by decide)
    rw [hend]
    exact
      { others := fun j hj => by rw [hslot, if_neg hj]
        self := ⟨false, by rw [hslot, if_pos rfl]⟩
        power := hpower, links := hlinks, settings := hsettings, portA := hportA, portB := hportB, episode := hepisode
        entries := fun k _ => by rw [hatt]
        closed := fun h => by rw [hopen] at h; exact absurd h (by decide)
        member := fun m hm _ => hmember m hm
        goesOn := fun _ => ⟨hstate, htodo, by rw [hatt]⟩
        ends := fun _ h => absurd h hnot }

/-! ### The posting -/

/-- The flow of an extraction up to the PAU's part (R137). -/
def passed (i : SlotId) (s : State) : Work := (gone i s).react (s.moveFacts i .empty)

/-- The flow up to the Batch Engine's part (R126, R137). -/
def told (i : SlotId) (s : State) : Work := (passed i s).memberMoved i

/-- The class an extraction from this state is posted under (R137, R138). -/
def SlotState.leaves (st : SlotState) : SlotClass := if st.surprises then .surpriseExtraction else .extracted

/-- The flow with the mark of a surprise, fault outstanding (R137). -/
def marked (i : SlotId) (s : State) : Work :=
  if (s.stateOf i).surprises then (told i s).on (State.modRecord i fun r => { r with faultOutstanding := true })
  else told i s

/-- The flow with the posting (R137, R138). -/
def posted (i : SlotId) (s : State) : Work :=
  (marked i s).on (State.postSlot i (SlotState.leaves (s.stateOf i)) (.leftState (s.stateOf i)))

/-- The flow with its storm, where one is due (R143). -/
def extracted (i : SlotId) (s : State) : Work :=
  if (s.stateOf i).surprises && (marked i s).st.stormFor i then (posted i s).storm i else posted i s

/-- The extraction's flow is the one named. -/
theorem extract_eq (i : SlotId) (s : State) (hd : (s.stateOf i).debounces = false) :
    ((Work.start s).on (State.modCond i fun c => { c with loss := none, present := false })).extract i =
      extracted i s := by
  let u := s.modCond i fun c => { c with loss := none, present := false }
  have hleft : u.stateOf i = s.stateOf i := modCond_stateOf ..
  have hsame := openTouching_same (fun e => e.payload != i && e.announced) i (Work.start u)
  have hfacts : ((Work.start u).openLost i).st.moveFacts i .empty = s.moveFacts i .empty := by
    have hrecord : ((Work.start u).openLost i).st.recordOf i = s.recordOf i :=
      (recordOf_of_lanes hsame i).trans (modCond_recordOf ..)
    have hpower : ((Work.start u).openLost i).st.power = s.power := (power_of_lanes hsame).trans (modCond_power ..)
    rw [State.moveFacts, State.moveFacts, stateOf_eq, hrecord, hpower, stateOf_eq]
  have htold : (((Work.start u).openLost i).move i .empty none).memberMoved i = told i s := by
    rw [Work.move, hfacts]
    rfl
  have hflow : (Work.start u).extract i =
      if (s.stateOf i).surprises = true then
        ((told i s).on (State.modRecord i fun r => { r with faultOutstanding := true })).postFault i .surpriseExtraction
          (.leftState (s.stateOf i))
      else (told i s).on (State.postSlot i .extracted (.leftState (s.stateOf i))) := by
    rw [← htold, ← hleft]
    exact if_neg (by rw [start_st, hleft, hd]; decide)
  show (Work.start u).extract i = _
  rw [hflow, extracted, posted, marked, SlotState.leaves]
  by_cases hs : (s.stateOf i).surprises = true
  · simp only [hs, if_true, Bool.true_and]
    rfl
  · simp only [hs, if_false, Bool.false_and, Bool.false_eq_true]

theorem presenceLost_settles (i : SlotId) (s : State) (hrun : Running s) (hloss : (s.slot i).cond.loss.isSome = true)
    (hd : (s.stateOf i).debounces = false) :
    exec (.presenceLost i) s = .next (settle settleBound (extracted i s)) := by
  have htaken : exec (.presenceLost i) s = .next (s.run fun w =>
      (w.on (State.modCond i fun c => { c with loss := none, present := false })).extract i) :=
    congrArg _ (expiry_taken s _ _ hloss hrun)
  rw [htaken, State.run]
  rw [extract_eq i s hd]

end Sys2Proof.SlotLines
end

section
/-! How the step of an extraction goes on: what its flow hands over, and how that is taken (R132, R137). -/

namespace Sys2Proof.SlotLines

open Sys2Proof Sys2Proof.Machine Sys2Proof.Laws Sys2Proof.Safety

theorem passed_reacted (i : SlotId) (s : State) : Reacted (gone i s) (passed i s) := reacted_react _ _

/-- The mark touches the record of the slot alone. -/
theorem marked_slot (i : SlotId) (s : State) (j : SlotId) : (marked i s).st.slot j =
    if j = i ∧ (s.stateOf i).surprises = true then
      { (told i s).st.slot i with record := { (told i s).st.recordOf i with faultOutstanding := true } }
    else (told i s).st.slot j := by
  unfold marked
  by_cases hs : (s.stateOf i).surprises = true
  · simp only [hs, if_true, and_true, on_st, modRecord_slot]
    rfl
  · simp only [hs, and_false, if_false, Bool.false_eq_true]

/-- The mark and the posting leave everything but the slot's record and its event. -/
structure PostingOnly (i : SlotId) (s : State) : Prop where
  power : (posted i s).st.power = (told i s).st.power
  links : (posted i s).st.links = (told i s).st.links
  batch : (posted i s).st.batch = (told i s).st.batch
  settings : (posted i s).st.settings = (told i s).st.settings
  portA : (posted i s).st.portA = (told i s).st.portA
  portB : (posted i s).st.portB = (told i s).st.portB
  episode : (posted i s).st.episode = (told i s).st.episode
  todo : (posted i s).todo = (told i s).todo
  slot : ∀ j : SlotId, (posted i s).st.slot j = (marked i s).st.slot j
  attention : (marked i s).st.attention = (told i s).st.attention

theorem posting_only (i : SlotId) (s : State) : PostingOnly i s := by
  by_cases hs : (s.stateOf i).surprises = true
  · have hm : marked i s = (told i s).on (State.modRecord i fun r => { r with faultOutstanding := true }) := if_pos hs
    constructor
    case slot => exact fun _ => rfl
    case attention => rw [hm]; rfl
    all_goals rw [posted, hm]; rfl
  · have hm : marked i s = told i s := if_neg hs
    constructor
    case slot => exact fun _ => rfl
    case attention => rw [hm]
    all_goals rw [posted, hm]; rfl

theorem posted_entry (i : SlotId) (s : State) (k : EventKey) : (posted i s).st.attention.entry k =
    if k = .slot i (SlotState.leaves (s.stateOf i)) then
      ⟨true, ((told i s).st.attention.entry k).pending, some (.leftState (s.stateOf i))⟩
    else (told i s).st.attention.entry k := by
  show (State.post _ _ _).attention.entry k = _
  rw [post_entry, (posting_only i s).attention]
  split
  · rename_i hk; rw [hk]
  · rfl

theorem posted_slot (i : SlotId) (s : State) {j : SlotId} (hj : j ≠ i) :
    (posted i s).st.slot j = (told i s).st.slot j := by
  rw [(posting_only i s).slot, marked_slot, if_neg fun hc => hj hc.1]

theorem posted_stateOf (i : SlotId) (s : State) (j : SlotId) : (posted i s).st.stateOf j = (told i s).st.stateOf j := by
  rw [stateOf_eq, recordOf_eq, (posting_only i s).slot, marked_slot]
  split
  · rename_i hc; rw [hc.1]; rfl
  · rfl

/-- What an extraction starts from: the presence line is high, the slot is in neither EMPTY nor SETTLING, the power
outputs follow the states, and each pair of slots is listed once. -/
structure Leaves (i : SlotId) (s : State) : Prop where
  high : (s.slot i).lines.presL = .high
  there : (s.stateOf i).debounces = false
  outputs : OutputsFollow s
  pairs : PairsOnce s

namespace Leaves

variable {i : SlotId} {s : State} (h : Leaves i s)
include h

theorem gone : Gone i s (gone i s) := gone_spec i s h.high h.there h.outputs h.pairs

theorem gone_empty : (SlotLines.gone i s).st.stateOf i = .empty := by
  rw [stateOf_eq, h.gone.record]
  rfl

theorem spread : Spread i (SlotLines.gone i s) (passed i s) := (Spread.refl i _).react h.gone_empty _

theorem passed_empty : (passed i s).st.stateOf i = .empty := h.spread.stateOf.trans h.gone_empty

theorem told : Told i (passed i s) (told i s) := told_spec i _ h.passed_empty

theorem passed_batch : (passed i s).st.batch = s.batch := (passed_reacted i s).batch.trans h.gone.shelf.2.1

theorem passed_entry (k : EventKey) (hk : k ≠ .shelf .budget) :
    (passed i s).st.attention.entry k = s.attention.entry k := by
  rw [(passed_reacted i s).entries k hk, h.gone.attention]

/-- The rest of the flow moves no slot. -/
theorem told_stateOf (j : SlotId) : (SlotLines.told i s).st.stateOf j = (passed i s).st.stateOf j := by
  rw [stateOf_eq, recordOf_eq]
  by_cases hj : j = i
  · obtain ⟨flag, hself⟩ := h.told.self
    rw [hj, hself]
    rfl
  · rw [h.told.others j hj]
    rfl

theorem posted_state (j : SlotId) : (posted i s).st.stateOf j = (passed i s).st.stateOf j :=
  (posted_stateOf i s j).trans (h.told_stateOf j)

theorem posted_power : (posted i s).st.power = (passed i s).st.power := (posting_only i s).power.trans h.told.power

theorem posted_empty : (posted i s).st.stateOf i = .empty := (h.posted_state i).trans h.passed_empty

/-- The storm spreads. -/
theorem storm_spread : Spread i (posted i s) (extracted i s) := by
  unfold extracted
  split
  · exact (Spread.refl i _).storm h.posted_empty i
  · exact .refl i _

/-- The power outputs follow all along. -/
theorem extracted_outputs : OutputsFollow (extracted i s).st := by
  have hpassed : OutputsFollow (passed i s).st := outputsFollow_kept.react _ h.gone.outputs
  have htold : OutputsFollow (SlotLines.told i s).st := outputsFollow_kept.memberMoved i hpassed
  have hposted : OutputsFollow (posted i s).st := by
    unfold posted marked
    split
    · exact outputsFollow_kept.postSlot i _ _ (outputsFollow_kept.modRecord i _ htold)
    · exact outputsFollow_kept.postSlot i _ _ htold
  unfold extracted
  split
  · exact outputsFollow_kept.storm i hposted
  · exact hposted

/-- What the extraction has handed over before the batch was told. -/
theorem passed_mild : ∀ x ∈ (passed i s).todo, Mild (passed i s).st x := by
  obtain ⟨new, hnew, hm⟩ := h.spread.todo
  obtain ⟨l, hl, _⟩ := h.gone.todo
  intro x hx
  rw [hnew, hl] at hx
  rcases List.mem_append.1 hx with hx | hx
  · obtain ⟨j, _, rfl⟩ := List.mem_map.1 hx
    trivial
  · exact hm x hx

theorem passed_length : (passed i s).todo.length < settleBound := by
  obtain ⟨l, hl, hlen, _⟩ := h.gone.todo
  obtain ⟨new, hnew, hn, _⟩ := (passed_reacted i s).todo
  have hcard := List.Nodup.length_le_card hn
  simp only [Fintype.card_fin] at hcard
  rw [hnew, hl, List.length_append, List.length_map, List.length_map, settleBound]
  omega

end Leaves

/-- How an extraction's step goes on: by spreading alone, or with the ended batch's consideration of every slot. -/
inductive Goes (i : SlotId) (s t : State) : Prop
  | alone (todo : (told i s).todo = (passed i s).todo)
      (spread : Spreads i (posted i s).st t)
  | adds (u : State) (done : (posted i s).st.batch.state = .done) (dormant : Dormant (posted i s).st)
      (before : Spreads i (posted i s).st u)
      (after : Spreads i u.considerAll t)

theorem dormant_of_outcomes {s : State} (h : ∀ m ∈ s.batch.members, m.outcome.isSome = true) : Dormant s := by
  intro j hj
  obtain ⟨m, hm⟩ := exists_member hj
  have hsome := h m (List.mem_of_find?_eq_some hm)
  rw [State.openMember, hm] at hj
  simp only [Option.isNone_iff_eq_none] at hj
  rw [hj] at hsome
  exact absurd hsome (by decide)

namespace Leaves

variable {i : SlotId} {s : State} (h : Leaves i s)
include h

theorem goes : Goes i s (settle settleBound (extracted i s)) := by
  have hstorm := h.storm_spread
  obtain ⟨more, hmore, hmm⟩ := hstorm.todo
  have hempty := hstorm.stateOf.trans h.posted_empty
  have hbatch := (posting_only i s).batch
  have htodo := (posting_only i s).todo
  have hmild : ∀ x ∈ (passed i s).todo ++ more, Mild (extracted i s).st x := by
    intro x hx
    rcases List.mem_append.1 hx with hx | hx
    · refine (Mild.mono (fun j hj => ?_) (h.passed_mild x hx)).mono hstorm.calm
      rwa [h.posted_state]
    · exact hmm x hx
  have alone : (SlotLines.told i s).todo = (passed i s).todo → Goes i s (settle settleBound (extracted i s)) := by
    intro hsame
    refine .alone hsame (hstorm.toSpreads.trans (spread_settle _ _ hempty h.extracted_outputs ?_))
    rwa [hmore, htodo, hsame]
  by_cases hlast : LastOpen i (passed i s).st
  case neg => exact alone (h.told.goesOn hlast).2.1
  by_cases hopen : (passed i s).st.openMember i = true
  case neg => exact alone (by rw [h.told.closed (by simpa using hopen)])
  obtain ⟨fault, _, hstate, hall, _, hadd⟩ := h.told.ends hopen hlast
  cases fault with
  | true => exact alone (by rw [hadd]; simp)
  | false =>
    have htd : (extracted i s).todo = (passed i s).todo ++ .considerAll :: more := by
      rw [hmore, htodo, hadd]
      simp
    obtain ⟨m, u, hu, hmu, hou, heq⟩ :=
      spread_settle_consider _ settleBound _ more htd h.passed_length hempty h.extracted_outputs hmild
    rw [heq]
    have hst : ∀ j, (u.on State.considerAll).st.stateOf j = u.st.stateOf j := fun j => by
      rw [on_st, considerAll_stateOf]
    have hafter : Spreads i (u.on State.considerAll).st (settle m (u.on State.considerAll)) := by
      refine spread_settle m (u.on State.considerAll) ?_ ?_ fun x hx => ?_
      · rw [hst]; exact hu.stateOf.trans hempty
      · have hkept := outputsFollow_kept.take .considerAll hou
        rwa [take_considerAll] at hkept
      · have hcalm : ∀ j, Calm (u.st.stateOf j) → Calm ((u.on State.considerAll).st.stateOf j) := fun j hj => by
          rw [hst]; exact hj
        rw [on_todo] at hx
        exact Mild.mono hcalm (hmu x hx)
    rw [on_st] at hafter
    exact .adds u.st (by rw [hbatch]; exact hstate) (dormant_of_outcomes (by rw [hbatch]; exact hall))
      (hstorm.toSpreads.trans hu) hafter

end Leaves

end Sys2Proof.SlotLines
end

section
/-! What an extraction leaves of its own slot, and of its batch (R137 to R139, R126, R127, R132). -/

namespace Sys2Proof.SlotLines

open Sys2Proof Sys2Proof.Machine Sys2Proof.Laws Sys2Proof.Safety

namespace Leaves

variable {i : SlotId} {s : State} (h : Leaves i s)
include h

/-! ### The slot that left -/

/-- The record of the slot when the flow has ended: that of the move, with a member flag and the mark. -/
theorem posted_self : ∃ flag : Bool, bare ((posted i s).st.slot i) =
    bare { (SlotLines.gone i s).st.slot i with
      record := { (s.recordOf i).enter s.settings .empty none with
        batchMember := flag, faultOutstanding := (s.recordOf i).faultOutstanding || (s.stateOf i).surprises } } := by
  obtain ⟨flag, hself⟩ := h.told.self
  have hslot := (posting_only i s).slot
  have hrec : (passed i s).st.recordOf i = (s.recordOf i).enter s.settings .empty none :=
    h.spread.recordOf.trans h.gone.record
  have hold : ((s.recordOf i).enter s.settings .empty none).faultOutstanding = (s.recordOf i).faultOutstanding := rfl
  refine ⟨flag, ?_⟩
  rw [hslot, marked_slot, recordOf_eq (SlotLines.told i s).st, hself, hrec]
  cases hs : (s.stateOf i).surprises
  · simp only [Bool.false_eq_true, and_false, if_false, Bool.or_false]
    rw [← hold]
    exact bare_withRecord _ h.spread.slot
  · simp only [and_true, if_true, Bool.or_true]
    exact bare_withRecord _ h.spread.slot

theorem near : Near i (posted i s).st (settle settleBound (extracted i s)) := by
  rcases h.goes with ⟨_, hspread⟩ | ⟨u, hdone, hdormant, hbefore, hafter⟩
  · exact hspread.near
  · have hb : u.batch = (posted i s).st.batch := (hbefore.batch hdormant).1
    have hempty : u.stateOf i = .empty := hbefore.stateOf.trans h.posted_empty
    exact (hbefore.near.trans (near_considerAll (by rw [hb]; exact hdone) hempty)).trans hafter.near

/-- The slot at the end of the step. -/
theorem final_self : ∃ flag : Bool, bare ((settle settleBound (extracted i s)).slot i) =
    bare { (SlotLines.gone i s).st.slot i with
      record := { (s.recordOf i).enter s.settings .empty none with
        batchMember := flag, faultOutstanding := (s.recordOf i).faultOutstanding || (s.stateOf i).surprises } } := by
  obtain ⟨flag, hflag⟩ := h.posted_self
  exact ⟨flag, h.near.slot.trans hflag⟩

theorem final_record : ∃ flag : Bool, (settle settleBound (extracted i s)).recordOf i =
    { (s.recordOf i).enter s.settings .empty none with
      batchMember := flag, faultOutstanding := (s.recordOf i).faultOutstanding || (s.stateOf i).surprises } := by
  obtain ⟨flag, hflag⟩ := h.final_self
  exact ⟨flag, bare_record hflag⟩

theorem final_lanes : LanesOpen i (settle settleBound (extracted i s)) := by
  have hlinks : (posted i s).st.links = (passed i s).st.links :=
    (posting_only i s).links.trans h.told.links
  rw [lanesOpen_iff]
  intro p q hpq
  refine h.near.lanes p q ?_
  rw [AllOpen, hlinks]
  exact h.spread.lanes p q ((lanesOpen_iff i _).1 h.gone.lanes p q hpq)

theorem final_lists : i ∉ (settle settleBound (extracted i s)).power.waitList ∧
    i ∉ (settle settleBound (extracted i s)).power.permitQueue ∧
    i ∉ (settle settleBound (extracted i s)).power.holders := by
  have hoff : i ∉ (SlotLines.gone i s).st.power.waitList ∧ i ∉ (SlotLines.gone i s).st.power.permitQueue ∧
      i ∉ (SlotLines.gone i s).st.power.holders := by
    rw [h.gone.power]
    simp
  obtain ⟨hw, hq, hh⟩ := hoff
  refine ⟨h.near.offWait ?_, h.near.offQueue ?_, h.near.offHolders ?_⟩
  all_goals rw [h.posted_power]
  · exact h.spread.offWait hw
  · exact h.spread.offQueue hq
  · exact h.spread.offHolders hh

/-- The event of the extraction is posted (R137, R138). -/
theorem final_posted : Posted (.slot i (SlotState.leaves (s.stateOf i))) (.leftState (s.stateOf i)) s
    (settle settleBound (extracted i s)) := by
  rw [Posted, h.near.entries, posted_entry, if_pos rfl, h.told.entries _ (by simp), h.passed_entry _ (by simp)]

/-! ### Its batch -/

omit h in
theorem anyActive_eq {t u : State} (hs : Spreads i t u) : u.anyActive = t.anyActive := by
  rw [State.anyActive, hs.portA, hs.portB]
  rfl

/-- The slots that wait to be added are those that waited before, without the slot that left (R132). -/
theorem adds_after {u : State} (hs : Spreads i (posted i s).st u) :
    autoSlots .done u = without i (autoSlots .done s) := by
  rw [autoSlots_done, autoSlots_done, without, List.filter_filter]
  refine List.filter_congr fun j _ => ?_
  have hempty : u.stateOf i = .empty := hs.stateOf.trans h.posted_empty
  by_cases hj : j = i
  · simp [Adds, hj, hempty]
  · have hgone : (SlotLines.gone i s).st.recordOf j = s.recordOf j := (h.gone.others j hj).1
    have hlater : u.stateOf j = .retirePending ∨ s.stateOf j = .retirePending → u.recordOf j = s.recordOf j := by
      have hposted : (posted i s).st.recordOf j = (passed i s).st.recordOf j := by
        rw [recordOf_eq, posted_slot i s hj, h.told.others j hj, ← recordOf_eq]
      intro hw
      have hpass : ((SlotLines.gone i s).st.stateOf j = .retirePending ∨ (passed i s).st.stateOf j = .retirePending) →
          (passed i s).st.recordOf j = s.recordOf j := fun hp => (h.spread.waiting j hp).trans hgone
      rcases hw with hw | hw
      · have hu := hs.waiting j (.inr hw)
        have hp : (passed i s).st.stateOf j = .retirePending := by rw [stateOf_eq, ← hposted, ← hu]; exact hw
        rw [hu, hposted, hpass (.inr hp)]
      · have hg : (SlotLines.gone i s).st.stateOf j = .retirePending := by rw [stateOf_eq, hgone]; exact hw
        have hp := hpass (.inl hg)
        have hpo : (posted i s).st.stateOf j = .retirePending := by rw [stateOf_eq, hposted, hp]; exact hw
        have hu := hs.waiting j (.inl hpo)
        rw [hu, hposted, hp]
    have hne : (j != i) = true := by simpa using hj
    rw [hne, Bool.true_and]
    by_cases hw : u.stateOf j = .retirePending ∨ s.stateOf j = .retirePending
    · simp only [Adds, State.roleOf, stateOf_eq, hlater hw]
    · simp only [not_or] at hw
      simp [Adds, beq_eq_false_iff_ne.2 hw.1, beq_eq_false_iff_ne.2 hw.2]

theorem posted_anyActive : (posted i s).st.anyActive = s.anyActive := by
  obtain ⟨_, _, hgA, hgB, _⟩ := h.gone.shelf
  rw [State.anyActive, (posting_only i s).portA, (posting_only i s).portB, h.told.portA, h.told.portB,
    h.spread.portA, h.spread.portB, hgA, hgB]
  rfl

omit h in
theorem posted_batchEnd : (posted i s).st.attention.entry (.shelf .batchEnd) =
    (SlotLines.told i s).st.attention.entry (.shelf .batchEnd) := by
  rw [posted_entry, if_neg (by simp)]

theorem lastOpen_iff : LastOpen i (passed i s).st ↔ LastOpen i s := by
  rw [LastOpen, h.passed_batch]
  rfl

theorem othersFailed_iff : OthersFailed i (passed i s).st ↔ OthersFailed i s := by
  rw [OthersFailed, h.passed_batch]
  rfl

theorem passed_openMember : (passed i s).st.openMember i = s.openMember i := openMember_congr h.passed_batch i

omit h in
/-- Where no slot is added, a dormant batch stays through the consideration of every slot. -/
theorem added_none {u : State} (hd : u.batch.state = .done) (hn : u.anyActive = true ∨ autoSlots .done u = []) :
    Added u [] u.considerAll := by
  by_cases ha : u.anyActive = true
  · rw [considerAll_active u ha]
    exact .nil u
  · have hadd := considerAll_added u hd (by simpa using ha)
    rwa [hn.resolve_left ha] at hadd

/-- The outcome of a member is there at the end, and so is the end of its batch (R126, R127). -/
theorem outcomeGiven (hn : NoAutoBatch i s) : OutcomeGiven i .extracted s (settle settleBound (extracted i s)) := by
  intro m hm ho
  have hpm : (passed i s).st.memberOf i = some m := by rw [State.memberOf, h.passed_batch]; exact hm
  obtain ⟨htold, hflag⟩ := h.told.member m hpm ho
  have hbatch := (posting_only i s).batch
  have hmember : (posted i s).st.memberOf i = some { m with outcome := some .extracted } := by
    rw [State.memberOf, hbatch]; exact htold
  have hpflag : ((posted i s).st.recordOf i).batchMember = false := by
    rw [recordOf_eq, (posting_only i s).slot, marked_slot]
    split
    · exact hflag
    · exact hflag
  have key : ∃ t : State, Spreads i t (settle settleBound (extracted i s)) ∧
      t.memberOf i = (posted i s).st.memberOf i ∧ (t.recordOf i).batchMember = false ∧
      (Dormant (posted i s).st → Dormant t ∧ t.batch = (posted i s).st.batch ∧
        t.attention.entry (.shelf .batchEnd) = (posted i s).st.attention.entry (.shelf .batchEnd)) := by
    rcases h.goes with ⟨_, hspread⟩ | ⟨u, hdone, hdormant, hbefore, hafter⟩
    · exact ⟨_, hspread, rfl, hpflag, fun hd => ⟨hd, rfl, rfl⟩⟩
    · obtain ⟨hb, he⟩ := hbefore.batch hdormant
      have hadds := h.adds_after hbefore
      have hactive : u.anyActive = s.anyActive := (anyActive_eq hbefore).trans h.posted_anyActive
      have hadded := added_none (u := u) (by rw [hb]; exact hdone) (by rw [hactive, hadds]; exact hn)
      have hbatch' : u.considerAll.batch = u.batch := hadded.batch
      have hrec := hadded.recordOf i
      refine ⟨u.considerAll, hafter, ?_, ?_, fun _ => ⟨?_, ?_, ?_⟩⟩
      · rw [State.memberOf, hbatch', hb]; rfl
      · rw [hrec]
        simp only [List.contains_nil, Bool.or_false]
        rw [hbefore.recordOf]
        exact hpflag
      · intro j hj
        rw [openMember_congr hbatch'] at hj
        rw [considerAll_stateOf]
        exact hbefore.dormant hdormant j hj
      · rw [hbatch', hb]
      · rw [hadded.attention, he]
  obtain ⟨t, hspread, htm, htf, htd⟩ := key
  refine ⟨by rw [hspread.member.trans htm, hmember], by rw [hspread.recordOf]; exact htf, fun hlast => ?_⟩
  have hopen : (passed i s).st.openMember i = true := openMember_of_none hpm ho
  obtain ⟨fault, hfault, hstate, hall, hentry, _⟩ := h.told.ends hopen (h.lastOpen_iff.2 hlast)
  obtain ⟨hdt, hbt, het⟩ := htd (dormant_of_outcomes (by rw [hbatch]; exact hall))
  obtain ⟨hbf, hef⟩ := hspread.batch hdt
  have hended : BatchEnded fault s (settle settleBound (extracted i s)) := by
    refine ⟨?_, ?_⟩
    · rw [hbf.trans hbt, hbatch, hstate]
    · rw [Posted, hef.trans het, posted_batchEnd, hentry, h.passed_entry _ (by decide)]
  rw [h.othersFailed_iff] at hfault
  refine ⟨fun hf => ?_, fun _ hf => ?_⟩
  · have hothers : OthersFailed i s := hf.resolve_left (by simp)
    rwa [hfault.2 hothers] at hended
  · have : fault = false := by
      cases fault with
      | false => rfl
      | true => exact absurd (hfault.1 rfl) hf
    rwa [this] at hended

/-- The slots that waited to be added are the members of a new batch (R132, R164). -/
theorem autoBatchFollows : AutoBatchFollows i s (settle settleBound (extracted i s)) := by
  intro hactive hopen hlast hfailed hne
  obtain ⟨fault, hfault, _, _, hentry, htodo⟩ := h.told.ends (h.passed_openMember.trans hopen) (h.lastOpen_iff.2 hlast)
  have hfalse : fault = false := by
    cases fault with
    | false => rfl
    | true => exact absurd (h.othersFailed_iff.1 (hfault.1 rfl)) hfailed
  subst hfalse
  rcases h.goes with ⟨hsame, _⟩ | ⟨u, hdone, hdormant, hbefore, hafter⟩
  · rw [hsame] at htodo
    simp at htodo
  obtain ⟨hb, he⟩ := hbefore.batch hdormant
  have hdoneu : u.batch.state = .done := by rw [hb]; exact hdone
  have hadded := considerAll_added u hdoneu
    (by rw [← hactive, ← h.posted_anyActive]; exact anyActive_eq hbefore)
  rw [h.adds_after hbefore] at hadded
  have hbatch : u.considerAll.batch =
      { state := .gathering, window := some s.settings.gatherWindow
        members := (without i (autoSlots .done s)).map (newMember false) } := by
    have hsettings : u.settings = s.settings := by
      have hu : u.settings = (posted i s).st.settings := hbefore.settings
      rw [hu, (posting_only i s).settings, h.told.settings, h.spread.settings, h.gone.shelf.1]
    rw [hadded.batch, autoBatch, if_neg hne, hdoneu, hsettings]
    rfl
  have hwaits : ∀ j ∈ without i (autoSlots .done s), u.considerAll.stateOf j = .retirePending := by
    intro j hj
    rw [← h.adds_after hbefore, autoSlots_done] at hj
    have hadds := (List.mem_filter.1 hj).2
    simp only [Adds, Bool.and_eq_true, beq_iff_eq] at hadds
    rw [considerAll_stateOf]
    exact hadds.1.1.2
  have hdormantNew : Dormant u.considerAll := by
    intro j hj
    obtain ⟨m, hm⟩ := exists_member hj
    have hmem := List.mem_of_find?_eq_some hm
    rw [hbatch] at hmem
    obtain ⟨k, hk, rfl⟩ := List.mem_map.1 hmem
    have hkj : k = j := by simpa [newMember] using List.find?_some hm
    rw [← hkj]
    exact hwaits k hk
  obtain ⟨hbf, hef⟩ := hafter.batch hdormantNew
  refine ⟨hbf.trans hbatch, ?_, fun j hj => ?_, ?_⟩
  · have hepisode : u.episode = s.episode := by
      have hu : u.episode = (posted i s).st.episode := hbefore.episode
      rw [hu, (posting_only i s).episode, h.told.episode, h.spread.episode, h.gone.shelf.2.2.2.2.1]
    have hlast : (settle settleBound (extracted i s)).episode = u.considerAll.episode := hafter.episode
    rw [hlast, ← hepisode]
    exact hadded.episode
  · have hrec := hafter.waiting j (.inl (hwaits j hj))
    rw [hrec, hadded.recordOf j]
    simp [hj]
  · rw [Posted, hef, hadded.attention, he, posted_batchEnd, hentry, h.passed_entry _ (by decide)]

end Leaves

end Sys2Proof.SlotLines
end

section
/-! The storm of an extraction (R78, R143, R144), and the extraction where no other slot waits (R64, R127). -/

namespace Sys2Proof.SlotLines

open Sys2Proof Sys2Proof.Machine Sys2Proof.Laws Sys2Proof.Safety

theorem stormFor_iff (s : State) (i : SlotId) : s.stormFor i = true ↔ StormDue i s := by
  simp only [State.stormFor, List.any_eq_true, mem_allSlots, true_and, Bool.and_eq_true, Bool.or_eq_true, bne_iff_ne,
    StormDue]

/-- A storm leaves what does not charge (R77, R143). -/
structure Stormy (v w : Work) : Prop where
  todo : w.todo = v.todo
  sum : w.st.power.sumOfGrants = v.st.power.sumOfGrants
  batch : w.st.batch = v.st.batch
  batchEnd : w.st.attention.entry (.shelf .batchEnd) = v.st.attention.entry (.shelf .batchEnd)
  slot : ∀ j : SlotId, v.st.stateOf j ≠ .charging → w.st.slot j = v.st.slot j
  wait : v.st.power.waitList = [] → w.st.power.waitList = []
  queue : ∀ j : SlotId, j ∈ v.st.power.permitQueue → j ∈ w.st.power.permitQueue

theorem Stormy.refl (w : Work) : Stormy w w := ⟨rfl, rfl, rfl, rfl, fun _ _ => rfl, id, fun _ => id⟩

/-- The freeze that a storm sets (R78, R143). -/
def frozen (w : Work) : Work := w.on (State.modPower fun p => { p with freeze := true })

theorem storm_freezes (i : SlotId) (w : Work) (hf : w.st.power.freeze = false) :
    w.storm i = (frozen w).backOffAll.on (State.postShelf .faultStorm (.storm i)) := by
  rcases storm_cases i w with ⟨hf', _⟩ | ⟨_, hs⟩
  · rw [hf] at hf'; exact absurd hf' (by decide)
  · rw [hs, Work.setFreeze, hf, if_neg Bool.false_ne_true]
    rfl

theorem storm_stormy (i : SlotId) (w : Work) : Stormy w (w.storm i) := by
  cases hf : w.st.power.freeze
  · obtain ⟨hback, htodo⟩ := backOffAll_spec (frozen w)
    have hone := storm_freezes i w hf
    generalize (frozen w).backOffAll = u at hback htodo hone
    rw [hone]
    refine ⟨htodo, hback.sum, hback.shelf.2.1, ?_, fun j hj => ?_, fun hw => ?_,
      fun j hj => (hback.queue j).2 (.inl hj)⟩
    · show (State.post _ _ _).attention.entry _ = _
      rw [post_entry, if_neg (by decide), hback.attention]
      rfl
    · exact (hback.slot j).trans (if_neg fun hc => hj hc.2)
    · have hnone : (frozen w).st.power.waitList = [] := hw
      exact (hback.waits fun j _ => by rw [hnone]; exact List.not_mem_nil).trans hnone
  · rcases storm_cases i w with ⟨_, hs⟩ | ⟨hf', _⟩
    · rw [hs]
      refine ⟨rfl, rfl, rfl, ?_, fun _ _ => rfl, id, fun _ => id⟩
      rw [on_st, modEvent_entry, if_neg (by decide)]
    · rw [hf] at hf'; exact absurd hf' (by decide)

theorem extracted_stormy (i : SlotId) (s : State) : Stormy (posted i s) (extracted i s) := by
  unfold extracted
  split
  · exact storm_stormy i _
  · exact .refl _

namespace Leaves

variable {i : SlotId} {s : State} (h : Leaves i s)
include h

theorem marked_stormFor : (marked i s).st.stormFor i = true ↔ StormDue i s := by
  have hentry : ∀ (j : SlotId) (c : SlotClass),
      (marked i s).st.attention.entry (.slot j c) = s.attention.entry (.slot j c) := fun j c => by
    rw [(posting_only i s).attention, h.told.entries _ (by simp), h.passed_entry _ (by simp)]
  rw [stormFor_iff]
  simp only [StormDue, hentry]

/-- What the batch hands over is its consideration of every slot, where it has ended (R127, R132). -/
theorem told_todo : ∃ extra : List Handover, (SlotLines.told i s).todo = (passed i s).todo ++ extra ∧
    (∀ x ∈ extra, x = .considerAll) ∧ (¬ LastOpen i s → extra = []) := by
  by_cases hlast : LastOpen i (passed i s).st
  case neg => exact ⟨[], by rw [(h.told.goesOn hlast).2.1]; simp, by simp, fun _ => rfl⟩
  by_cases hopen : (passed i s).st.openMember i = true
  case neg => exact ⟨[], by rw [h.told.closed (by simpa using hopen)]; simp, by simp, fun _ => rfl⟩
  obtain ⟨fault, _, _, _, _, hadd⟩ := h.told.ends hopen hlast
  refine ⟨_, hadd, fun x hx => ?_, fun hn => absurd (h.lastOpen_iff.1 hlast) hn⟩
  split at hx
  · exact absurd hx List.not_mem_nil
  · exact List.mem_singleton.1 hx

/-- A step of an extraction whose faults have all been backed off, or that has none: the other slots stay (R121,
R132). -/
theorem stays_of_idle {b : Bool} (hp : ∀ x ∈ (passed i s).todo, Idle b (extracted i s).st x)
    (hb : ¬ LastOpen i s ∨ b = true) : Stays b (extracted i s).st (settle settleBound (extracted i s)) := by
  obtain ⟨extra, htold, hcons, hlast⟩ := h.told_todo
  refine still_settle settleBound _ h.extracted_outputs fun x hx => ?_
  rw [(extracted_stormy i s).todo, (posting_only i s).todo, htold] at hx
  rcases List.mem_append.1 hx with hx | hx
  · exact hp x hx
  · rcases hb with hb | hb
    · rw [hlast hb] at hx
      exact absurd hx List.not_mem_nil
    · rw [hcons x hx]
      exact hb

/-- With no permit given the PAU hands nothing over. -/
theorem idle_of_same {b : Bool} (hsame : (passed i s).todo = (SlotLines.gone i s).todo) (t : State) :
    ∀ x ∈ (passed i s).todo, Idle b t x := by
  obtain ⟨l, hl, _⟩ := h.gone.todo
  intro x hx
  rw [hsame, hl] at hx
  obtain ⟨j, _, rfl⟩ := List.mem_map.1 hx
  trivial

theorem passed_freeze : (passed i s).st.power.freeze = s.power.freeze := by
  rw [(passed_reacted i s).freeze, h.gone.power]

theorem posted_other {j : SlotId} (hj : j ≠ i) : (posted i s).st.slot j = (passed i s).st.slot j :=
  (posted_slot i s hj).trans (h.told.others j hj)

/-- Of the other slots the move to EMPTY keeps records and power outputs. -/
theorem gone_other {j : SlotId} (hj : j ≠ i) : (SlotLines.gone i s).st.recordOf j = s.recordOf j :=
  (h.gone.others j hj).1

theorem posted_freeze : (posted i s).st.power.freeze = s.power.freeze := by rw [h.posted_power, h.passed_freeze]

/-- Where the holders are the slots in CHARGING, they still are when the PAU has acted (R72). -/
theorem passed_follows (hl : ListsFollow s) (j : SlotId) :
    j ∈ (passed i s).st.power.holders ↔ (passed i s).st.stateOf j = .charging := by
  obtain ⟨_, _, _, hiff⟩ := hl
  refine (passed_reacted i s).follows (fun k => ?_) j
  rw [h.gone.power]
  by_cases hk : k = i
  · rw [hk, h.gone_empty]
    simp
  · rw [stateOf_eq, h.gone_other hk, ← stateOf_eq]
    simp [hk, (hiff k).2.2]

/-- A slot that held a permit holds it when the PAU has acted, with its record (R72). -/
theorem passed_charging (hl : ListsFollow s) {j : SlotId} (hj : j ≠ i) (hc : s.stateOf j = .charging) :
    (passed i s).st.recordOf j = s.recordOf j ∧ (passed i s).st.stateOf j = .charging ∧
      j ∈ (passed i s).st.power.holders := by
  have hgc : (SlotLines.gone i s).st.stateOf j = .charging := by
    rw [stateOf_eq, h.gone_other hj]; exact hc
  obtain ⟨hslot, _⟩ := (passed_reacted i s).charging j hgc
  have hrec : (passed i s).st.recordOf j = s.recordOf j := by
    rw [recordOf_eq, hslot, ← recordOf_eq, h.gone_other hj]
  have hpc : (passed i s).st.stateOf j = .charging := by rw [stateOf_eq, hrec]; exact hc
  exact ⟨hrec, hpc, (h.passed_follows hl j).2 hpc⟩

/-- A storm under no freeze sets it, backs every holder off and is posted (R77, R78, R143). -/
theorem stormed_freezes (hstorm : extracted i s = (posted i s).storm i) (hf : s.power.freeze = false)
    (hentry : (posted i s).st.attention.entry (.shelf .faultStorm) = s.attention.entry (.shelf .faultStorm)) :
    Stormed i s (settle settleBound (extracted i s)) := by
  have hone := storm_freezes i (posted i s) (h.posted_freeze.trans hf)
  obtain ⟨hback, _⟩ := backOffAll_spec (frozen (posted i s))
  have hcharging : ∀ j : SlotId, (passed i s).st.stateOf j = .charging → j ∈ (passed i s).st.power.holders →
      (frozen (posted i s)).st.stateOf j = .charging ∧ j ∈ (frozen (posted i s)).st.power.holders := by
    intro j hc hin
    refine ⟨(h.posted_state j).trans hc, ?_⟩
    show j ∈ (posted i s).st.power.holders
    rwa [h.posted_power]
  generalize (frozen (posted i s)).backOffAll = u at hback hone
  have hst : (extracted i s).st = u.st.postShelf .faultStorm (.storm i) := by rw [hstorm, hone]; rfl
  have hstays : Stays true (extracted i s).st (settle settleBound (extracted i s)) := by
    refine h.stays_of_idle (fun x hx => ?_) (.inr rfl)
    obtain ⟨l, hl, _⟩ := h.gone.todo
    obtain ⟨new, hnew, _, hm⟩ := (passed_reacted i s).todo
    rw [hnew, hl] at hx
    rcases List.mem_append.1 hx with hx | hx
    · obtain ⟨j, _, rfl⟩ := List.mem_map.1 hx
      trivial
    · obtain ⟨j, hj, rfl⟩ := List.mem_map.1 hx
      obtain ⟨hc, hin⟩ := hm j hj
      obtain ⟨hc', hin'⟩ := hcharging j hc hin
      rw [hst]
      exact (hback.charging hin' hc').1
  rw [hst] at hstays
  refine ⟨hstays.freeze.trans hback.freeze, ?_, fun _ hl => ⟨?_, fun j hj hc => ?_⟩⟩
  · rw [hstays.attention, hf, Bool.false_or, ← hentry]
    show (State.post _ _ _).attention.entry _ = _
    rw [post_entry, if_pos rfl, hback.attention]
    rfl
  · rw [List.eq_nil_iff_forall_not_mem]
    intro k hk
    obtain ⟨hold, hno⟩ := (hback.holders k).1 ((hstays.holders k).1 hk)
    have hpass : k ∈ (passed i s).st.power.holders := by rw [← h.posted_power]; exact hold
    exact hno ⟨hold, (h.posted_state k).trans ((h.passed_follows hl k).1 hpass)⟩
  · obtain ⟨hrec, hpc, hin⟩ := h.passed_charging hl hj hc
    obtain ⟨hc', hin'⟩ := hcharging j hpc hin
    obtain ⟨hstate, hqueue, ⟨hpre, hmain, hilim, hled⟩, hphase, hretries, hpower⟩ := hback.charging hin' hc'
    have hfrozen : (frozen (posted i s)).st.recordOf j = s.recordOf j := by
      show (posted i s).st.recordOf j = _
      rw [recordOf_eq, h.posted_other hj, ← recordOf_eq, hrec]
    rw [hfrozen] at hretries hpower
    have hnd : (u.st.postShelf .faultStorm (.storm i)).stateOf j ≠ .draining := by
      have hq : (u.st.postShelf .faultStorm (.storm i)).stateOf j = .queued := hstate
      rw [hq]
      decide
    obtain ⟨krec, kpre, kmain, kilim, kled⟩ := hstays.slot j hnd
    refine ⟨(hstays.stateOf hnd).trans hstate, (hstays.queue j).2 hnd hqueue,
      ⟨kpre.trans hpre, kmain.trans hmain, kilim.trans hilim, kled.trans hled⟩, ?_, ?_, ?_⟩
    all_goals rw [krec]
    · exact hphase
    · exact hretries
    · exact hpower

/-- A storm that is due is made; under a freeze it is posted as repeated (R78, R143, R144). -/
theorem stormed (hs : (s.stateOf i).surprises = true) (hdue : StormDue i s) :
    Stormed i s (settle settleBound (extracted i s)) := by
  have hstorm : extracted i s = (posted i s).storm i := by
    rw [extracted, hs, h.marked_stormFor.2 hdue]
    rfl
  have hentry : (posted i s).st.attention.entry (.shelf .faultStorm) = s.attention.entry (.shelf .faultStorm) := by
    rw [posted_entry, if_neg (by simp), h.told.entries _ (by decide), h.passed_entry _ (by decide)]
  cases hf : s.power.freeze
  · exact h.stormed_freezes hstorm hf hentry
  · have hone : extracted i s =
        (posted i s).on (State.modEvent (.shelf .faultStorm) (·.postedRepeated (.storm i))) := by
      rcases storm_cases i (posted i s) with ⟨_, hx⟩ | ⟨hx, _⟩
      · rw [hstorm, hx]
      · rw [h.posted_freeze, hf] at hx; exact absurd hx (by decide)
    have hheld : (passed i s).todo = (SlotLines.gone i s).todo :=
      (passed_reacted i s).held (by rw [h.gone.power]; exact hf)
    have hstays := h.stays_of_idle (h.idle_of_same (b := true) hheld _) (.inr rfl)
    refine ⟨?_, ?_, fun hx => by rw [hf] at hx; exact absurd hx (by decide)⟩
    · rw [hstays.freeze, hone]
      exact h.posted_freeze.trans hf
    · rw [hstays.attention, hone, on_st, modEvent_entry, if_pos rfl, hf]
      rfl

end Leaves

end Sys2Proof.SlotLines
end

section
/-! The grants and permits an extraction passes on (R64, R69 to R72), and the statement on PRESENCE_LOST. -/

namespace Sys2Proof.SlotLines

open Sys2Proof Sys2Proof.Machine Sys2Proof.Laws Sys2Proof.Safety

/-! ### The PAU's reaction -/

/-- The first of the PAU's reactions: a deficit that is made good is cleared (R64 step 2). -/
def cleared (f : MoveFacts) (w : Work) : Work := if f.released then w.on State.clearDeficit else w

theorem react_eq (f : MoveFacts) (w : Work) :
    w.react f =
      if f.released || f.leftHead then (cleared f w).testHead f.permitReleased
      else if f.permitReleased then (cleared f w).arbiter else cleared f w := rfl

/-- The clearing touches the deficit flag and the event table. -/
theorem cleared_spec (f : MoveFacts) (w : Work) :
    (∀ j : SlotId, (cleared f w).st.slot j = w.st.slot j) ∧ SameShelf w.st (cleared f w).st ∧
      (cleared f w).todo = w.todo ∧
      ∃ d : Bool, (cleared f w).st.power = { w.st.power with deficit := d } ∧
        (f.released = true ∨ w.st.power.deficit = false →
          w.st.power.sumOfGrants ≤ w.st.settings.budget → d = false) := by
  unfold cleared
  split
  · rcases clearDeficit_cases w.st with ⟨_, _, hc⟩ | ⟨hno, hc⟩
    · rw [Work.on, hc]
      exact ⟨fun _ => rfl, ⟨rfl, rfl, rfl, rfl, rfl, rfl, rfl, rfl, rfl⟩, rfl, false, rfl, fun _ _ => rfl⟩
    · rw [Work.on, hc]
      exact ⟨fun _ => rfl, sameShelf_refl _, rfl, w.st.power.deficit, rfl,
        fun _ hle => hno.resolve_right (Nat.not_lt.2 hle)⟩
  · rename_i hr
    exact ⟨fun _ => rfl, sameShelf_refl _, rfl, w.st.power.deficit, rfl, fun hd _ => hd.resolve_left hr⟩

/-- With no slot waiting the PAU passes nothing on. -/
theorem react_alone (f : MoveFacts) (w : Work) (hw : w.st.power.waitList = []) (hq : w.st.power.permitQueue = []) :
    w.react f = cleared f w := by
  obtain ⟨_, _, _, d, hpower, _⟩ := cleared_spec f w
  have hnone : (cleared f w).st.nextPermit = none := nextPermit_none _ (.inr (.inr (.inr (by
    rw [hpower]
    intro j hj
    simp [hq] at hj))))
  have hwait : (cleared f w).st.power.waitList = [] := by rw [hpower]; exact hw
  rw [react_eq, testHead_none _ _ hwait hnone, arbiter_none _ hnone]
  split
  · rfl
  · split <;> rfl

theorem without_nil {i : SlotId} {l : List SlotId} (h : ∀ j : SlotId, j ≠ i → j ∉ l) : without i l = [] := by
  rw [List.eq_nil_iff_forall_not_mem]
  intro j hj
  obtain ⟨hin, hne⟩ := (mem_without i j l).1 hj
  exact h j hne hin

theorem without_single (i : SlotId) : without i [i] = [] := by simp [without]

/-- A head that fits the budget is let in (R69). -/
theorem testHead_single (w : Work) (j : SlotId) (b : Bool) (hw : w.st.power.waitList = [j])
    (hj : w.st.stateOf j = .budgetWait) (hf : w.st.headFits j = true)
    (hn : ((w.on (State.reserve j)).enter j .queued none).st.nextPermit = none) :
    w.testHead b = (w.on (State.reserve j)).enter j .queued none := by
  have hpass : passHeads [j] w = ((w.on (State.reserve j)).enter j .queued none, true) := by
    simp [passHeads, hf, hj]
  rw [Work.testHead, hw, hpass]
  exact arbiter_none _ hn

theorem posted_shelf (i : SlotId) (s : State) : SameShelf (told i s).st (posted i s).st := by
  unfold posted marked
  split
  · exact SameShelf.trans (onlySlot_modSlot _ i _).2.1 (onlySlot_modEvent _ i _ _).2.1
  · exact (onlySlot_modEvent _ i _ _).2.1

namespace Leaves

variable {i : SlotId} {s : State} (h : Leaves i s)
include h

/-! ### No other slot waits -/

theorem passed_alone (hn : NoOtherWaits i s) : passed i s = cleared (s.moveFacts i .empty) (SlotLines.gone i s) := by
  refine react_alone _ _ ?_ ?_
  · rw [h.gone.power]
    exact without_nil fun j hj => (hn j hj).1
  · rw [h.gone.power]
    exact without_nil fun j hj => (hn j hj).2

theorem noOtherWaits (hn : NoOtherWaits i s) :
    (settle settleBound (extracted i s)).power.sumOfGrants = s.power.sumOfGrants - (s.recordOf i).reservedGrant ∧
      BatchGoesOn i s (settle settleBound (extracted i s)) ∧
      (Alone i s → OthersKeep i s (settle settleBound (extracted i s)) ∧
        SameShelf s (settle settleBound (extracted i s))) := by
  obtain ⟨hslot, hshelf, htodo, d, hpower, _⟩ := cleared_spec (s.moveFacts i .empty) (SlotLines.gone i s)
  rw [← h.passed_alone hn] at hslot hshelf htodo hpower
  refine ⟨?_, fun hlast => ?_, fun ⟨hnostorm, hclosed, hnodrain⟩ => ?_⟩
  · have hstays := h.stays_of_idle (h.idle_of_same (b := true) htodo _) (.inr rfl)
    rw [hstays.sum, (extracted_stormy i s).sum, h.posted_power, hpower, h.gone.power]
  · have hstays := h.stays_of_idle (h.idle_of_same (b := false) htodo _) (.inl hlast)
    obtain ⟨hstate, _, hentry⟩ := h.told.goesOn (mt h.lastOpen_iff.1 hlast)
    rw [hstays.batch rfl, hstays.attention, (extracted_stormy i s).batch,
      (extracted_stormy i s).batchEnd, (posting_only i s).batch, hstate, posted_batchEnd, hentry,
      h.passed_batch, h.passed_entry _ (by decide)]
    exact ⟨rfl, rfl⟩
  · have htold : SlotLines.told i s = passed i s := h.told.closed (h.passed_openMember.trans hclosed)
    have hnone : (marked i s).st.stormFor i = false := by
      rw [← Bool.not_eq_true, h.marked_stormFor, ← stormFor_iff, hnostorm]
      decide
    have hext : extracted i s = posted i s := by rw [extracted, hnone, Bool.and_false]; rfl
    have hempty : (extracted i s).todo = [] := by
      obtain ⟨l, hl, _, hdrain⟩ := h.gone.todo
      have hlnil : l = [] := by
        rw [List.eq_nil_iff_forall_not_mem]
        exact fun j hj => hnodrain j (hdrain j hj)
      rw [hext, (posting_only i s).todo, htold, htodo, hl, hlnil]
      rfl
    rw [settle_done _ _ hempty, hext]
    refine ⟨OthersKeep.trans h.gone.others (OthersKeep.of_only fun j hj => ?_), SameShelf.trans h.gone.shelf
      (SameShelf.trans hshelf ?_)⟩
    · rw [h.posted_other hj, hslot]
    · have hrest := posted_shelf i s
      rwa [htold] at hrest

/-! ### What is passed on -/

/-- A slot that neither charges nor drains when the PAU has acted is the same at the end, but for its member flag. -/
theorem final_other {b : Bool} {j : SlotId} (hj : j ≠ i) (hd : (passed i s).st.stateOf j ≠ .draining)
    (hslot : (extracted i s).st.slot j = (posted i s).st.slot j)
    (hstays : Stays b (extracted i s).st (settle settleBound (extracted i s))) :
    (settle settleBound (extracted i s)).recordOf j =
        { (passed i s).st.recordOf j with
          batchMember := ((settle settleBound (extracted i s)).recordOf j).batchMember } ∧
      ((settle settleBound (extracted i s)).slot j).out.preEn = ((passed i s).st.slot j).out.preEn ∧
      (extracted i s).st.stateOf j ≠ .draining := by
  have hrec : (extracted i s).st.recordOf j = (passed i s).st.recordOf j := by
    rw [recordOf_eq, hslot, h.posted_other hj]
    rfl
  have hnd : (extracted i s).st.stateOf j ≠ .draining := by rw [stateOf_eq, hrec]; exact hd
  obtain ⟨krec, kpre, _⟩ := hstays.slot j hnd
  rw [hrec] at krec
  exact ⟨krec, by rw [kpre, hslot, h.posted_other hj], hnd⟩

/-- The PAU's reaction where the one slot that waits fits the budget and no permit is given (R64, R69, R70). -/
theorem passed_letIn {j : SlotId} {p : PowerPart} (hp : (s.recordOf j).power = some p) (hj : j ≠ i)
    (hst : s.stateOf j = .budgetWait) (hlist : without i s.power.waitList = [j]) (hheld : ArbiterHeld s)
    (hcause : (s.recordOf i).power.map (·.reserved) = some true ∨
      (s.stateOf i = .budgetWait ∧ s.power.waitList.head? = some i ∧ s.power.deficit = false))
    (hfit : s.power.sumOfGrants - (s.recordOf i).reservedGrant + p.grant ≤ s.settings.budget) :
    passed i s = ((cleared (s.moveFacts i .empty) (SlotLines.gone i s)).on (State.reserve j)).enter j .queued none := by
  obtain ⟨hslot, hshelf, _, d, hpower, hdef⟩ := cleared_spec (s.moveFacts i .empty) (SlotLines.gone i s)
  have hset : (cleared (s.moveFacts i .empty) (SlotLines.gone i s)).st.settings = s.settings :=
    hshelf.1.trans h.gone.shelf.1
  have hlines : (cleared (s.moveFacts i .empty) (SlotLines.gone i s)).st.shelf = s.shelf :=
    hshelf.2.2.2.2.2.2.1.trans h.gone.shelf.2.2.2.2.2.2.1
  have hrec : (cleared (s.moveFacts i .empty) (SlotLines.gone i s)).st.recordOf j = s.recordOf j := by
    rw [recordOf_eq, hslot, ← recordOf_eq, h.gone_other hj]
  rw [h.gone.power] at hpower hdef
  have hgs : (SlotLines.gone i s).st.settings = s.settings := h.gone.shelf.1
  have hreleased : (s.moveFacts i .empty).released = ((s.recordOf i).power.map (·.reserved) == some true) := by
    unfold State.moveFacts
    cases hpi : (s.recordOf i).power with
    | none => rfl
    | some q => cases hq : q.reserved <;> simp [SlotState.releasesGrant, hq]
  have hd : d = false := by
    refine hdef ?_ (by rw [hgs]; exact le_trans (Nat.le_add_right _ _) hfit)
    rcases hcause with hc | ⟨_, _, hc⟩
    · exact .inl (by rw [hreleased, hc]; rfl)
    · exact .inr hc
  have hacts : ((s.moveFacts i .empty).released || (s.moveFacts i .empty).leftHead) = true := by
    rcases hcause with hc | ⟨hs, hhead, _⟩
    · rw [hreleased, hc]; rfl
    · have hleft : (s.moveFacts i .empty).leftHead = true := by simp [State.moveFacts, hs, hhead]
      rw [hleft, Bool.or_true]
  have hfits : (cleared (s.moveFacts i .empty) (SlotLines.gone i s)).st.headFits j = true := by
    simp [State.headFits, State.grantOf, hrec, hp, hpower, hd, hset, hfit]
  have hstate : (cleared (s.moveFacts i .empty) (SlotLines.gone i s)).st.stateOf j = .budgetWait := by
    rw [stateOf_eq, hrec]; exact hst
  have hnone : (((cleared (s.moveFacts i .empty) (SlotLines.gone i s)).on (State.reserve j)).enter j .queued
      none).st.nextPermit = none := by
    refine nextPermit_none _ (hheld.imp (fun hf => ?_) fun hsup => .inl ?_)
    · rw [work_enter_st, enter_power, on_st, (reserve_spec _ j j).2.1, hpower]
      exact hf
    · rw [← hlines] at hsup
      exact hsup
  rw [passed, react_eq, hacts, if_pos rfl]
  exact testHead_single _ j _ (by rw [hpower]; exact hlist) hstate hfits hnone

theorem grantPassedOn : GrantPassedOn i s (settle settleBound (extracted i s)) := by
  intro j p hp hj hst hlist hheld hcause hfit
  have hpassed := h.passed_letIn hp hj hst hlist hheld hcause hfit
  obtain ⟨hslot, _, htodo, d, hpower, _⟩ := cleared_spec (s.moveFacts i .empty) (SlotLines.gone i s)
  have hrec : (cleared (s.moveFacts i .empty) (SlotLines.gone i s)).st.recordOf j = s.recordOf j := by
    rw [recordOf_eq, hslot, ← recordOf_eq, h.gone_other hj]
  generalize cleared (s.moveFacts i .empty) (SlotLines.gone i s) = v at hpassed htodo hpower hrec
  have hover : ((v.st.reserve j).slot j).handsOver j .queued = [] := handsOver_off j .queued _ rfl rfl (.inl rfl)
  have hsame : (passed i s).todo = (SlotLines.gone i s).todo := by
    rw [hpassed, work_enter_todo, on_st, hover, List.append_nil, on_todo, htodo]
  have hstays := h.stays_of_idle (h.idle_of_same (b := true) hsame _) (.inr rfl)
  have hstate : (passed i s).st.stateOf j = .queued := by rw [hpassed, work_enter_st, enter_stateOf, if_pos rfl]
  have hpart : ((passed i s).st.recordOf j).power = some { p with reserved := true, permitHeld := false } := by
    rw [hpassed, work_enter_st, enter_recordOf, if_pos rfl, on_st, (reserve_spec _ j j).1, if_pos rfl, hrec]
    simp [SlotRecord.enter, powerAfter, SlotState.releasesGrant, SlotState.preEnOn, hp]
  have hgrant : v.st.grantOf j = p.grant := by simp [State.grantOf, hrec, hp]
  rw [h.gone.power] at hpower
  have hlists : (passed i s).st.power.waitList = [] ∧ j ∈ (passed i s).st.power.permitQueue ∧
      (passed i s).st.power.sumOfGrants =
        s.power.sumOfGrants - (s.recordOf i).reservedGrant + p.grant := by
    have hmem := enter_mem (v.st.reserve j) j j .queued none
    have hsum := enter_sum (v.st.reserve j) j .queued none
    refine ⟨?_, ?_, ?_⟩
    · rw [hpassed, work_enter_st, enter_power, on_st, (reserve_spec v.st j j).2.1, hpower]
      simp [PowerAccounts.follow, PowerAccounts.releaseGrant, hlist, without_single]
    · rw [hpassed, work_enter_st, on_st, hmem.2.1, if_pos rfl]
    · rw [hpassed, work_enter_st, on_st, hsum, if_neg (by decide), (reserve_spec v.st j j).2.1, hgrant, hpower]
  obtain ⟨hwait, hqueue, hsum⟩ := hlists
  have hext : (extracted i s).st.slot j = (posted i s).st.slot j :=
    (extracted_stormy i s).slot j (by rw [h.posted_state, hstate]; decide)
  obtain ⟨krec, _, hnd⟩ := h.final_other hj (by rw [hstate]; decide) hext hstays
  refine ⟨⟨?_, by rw [krec]; exact hpart, ?_, ?_⟩, ?_⟩
  · rw [stateOf_eq, krec]; exact hstate
  · exact (hstays.queue j).2 hnd ((extracted_stormy i s).queue j (by rw [h.posted_power]; exact hqueue))
  · rw [List.eq_nil_iff_forall_not_mem]
    intro k hk
    have hk' := hstays.wait k hk
    rw [(extracted_stormy i s).wait (by rw [h.posted_power]; exact hwait)] at hk'
    exact List.not_mem_nil hk'
  · rw [hstays.sum, (extracted_stormy i s).sum, h.posted_power, hsum]

theorem permitPassedOn : PermitPassedOn i s (settle settleBound (extracted i s)) := by
  intro j p hp hj hst hi hwait hqueue hfree hsup hroom hprio hflt hnostorm
  obtain ⟨hslot, hshelf, htodo, d, hpower, _⟩ := cleared_spec (s.moveFacts i .empty) (SlotLines.gone i s)
  have hrec : (cleared (s.moveFacts i .empty) (SlotLines.gone i s)).st.recordOf j = s.recordOf j := by
    rw [recordOf_eq, hslot, ← recordOf_eq, h.gone_other hj]
  have hline : ((cleared (s.moveFacts i .empty) (SlotLines.gone i s)).st.slot j).lines.fltL = .high := by
    rw [hslot, (h.gone.others j hj).2.1]; exact hflt
  have hset : (cleared (s.moveFacts i .empty) (SlotLines.gone i s)).st.settings = s.settings :=
    hshelf.1.trans h.gone.shelf.1
  have hlines : (cleared (s.moveFacts i .empty) (SlotLines.gone i s)).st.shelf = s.shelf :=
    hshelf.2.2.2.2.2.2.1.trans h.gone.shelf.2.2.2.2.2.2.1
  have hreleased : (s.moveFacts i .empty).permitReleased = true := by simp [State.moveFacts, hi]
  have hreact := react_eq (s.moveFacts i .empty) (SlotLines.gone i s)
  rw [hreleased] at hreact
  rw [h.gone.power] at hpower
  generalize cleared (s.moveFacts i .empty) (SlotLines.gone i s) = v at hreact htodo hpower hrec hline hset hlines
  have hstate : v.st.stateOf j = .queued := by rw [stateOf_eq, hrec]; exact hst
  have hvwait : v.st.power.waitList = [] := by rw [hpower]; simp [hwait, without]
  have harb : v.arbiter = v.enter j .charging none :=
    arbiter_single v j (by rw [hpower]; exact hqueue) hstate (by rw [hpower]; exact hfree) (by rw [hlines]; exact hsup)
      (by rw [hpower, hset]; exact hroom) (by rw [hrec]; exact hprio)
  have htest : v.testHead true = v.arbiter := by simp [Work.testHead, hvwait, passHeads]
  have hpassed : passed i s = v.enter j .charging none := by
    rw [passed, hreact, htest, harb]
    split <;> rfl
  have hover : (v.st.slot j).handsOver j .charging = [] := handsOver_nil j .charging _ (.inl hline) (.inl rfl)
  have hsame : (passed i s).todo = (SlotLines.gone i s).todo := by
    rw [hpassed, work_enter_todo, hover, List.append_nil, htodo]
  have hstays := h.stays_of_idle (h.idle_of_same (b := true) hsame _) (.inr rfl)
  have hext : extracted i s = posted i s := by
    have hnone : (marked i s).st.stormFor i = false := by
      rw [← Bool.not_eq_true, h.marked_stormFor]; exact hnostorm
    rw [extracted, hnone, Bool.and_false]
    rfl
  have hcharges : (passed i s).st.stateOf j = .charging := by rw [hpassed, work_enter_st, enter_stateOf, if_pos rfl]
  have hprec : (passed i s).st.recordOf j = (s.recordOf j).enter s.settings .charging none := by
    rw [hpassed, work_enter_st, enter_recordOf, if_pos rfl, hrec, hset]
  obtain ⟨krec, kpre, hnd⟩ := h.final_other hj (by rw [hcharges]; decide) (by rw [hext]) hstays
  have hpost : (extracted i s).st.power = v.st.power.follow v.st j .charging := by
    rw [hext, h.posted_power, hpassed, work_enter_st, enter_power]
    rfl
  refine ⟨?_, ?_, ?_, ?_, ?_, ?_⟩
  · rw [stateOf_eq, krec]; exact hcharges
  · rw [krec, hprec]
    simp [SlotRecord.enter, powerAfter, SlotState.releasesGrant, SlotState.preEnOn, hp]
  · rw [krec, hprec]
    rfl
  · rw [kpre, hpassed]
    exact (enter_shows v.st j .charging none).1
  · rw [List.eq_nil_iff_forall_not_mem]
    intro k hk
    have hk' := (hstays.queue k).1 hk
    rw [hpost, hpower] at hk'
    simp [PowerAccounts.follow, hqueue, without_single] at hk'
  · refine (hstays.holders j).2 hnd ?_
    rw [hpost]
    simp [PowerAccounts.follow]

end Leaves

/-! ### The statement -/

theorem surprises_iff {st : SlotState} (hd : st.debounces = false) :
    st.surprises = false ↔ st ∈ [SlotState.identifying, .identified, .rejected, .vacantReady, .faulted] := by
  revert hd
  cases st <;> simp [SlotState.surprises, SlotState.holdsGrant, SlotState.debounces]

/-- Settles O28: the flow of the extraction is followed to its posting, and what the other slots' hand-overs can change
after it is bounded by what spreads (`Spreads`) and, where no slot is in fault, by what stays (`Stays`). -/
theorem presenceLostEndsInEmpty : Obligations.PresenceLostEndsInEmpty := by
  intro s i hrun hloss hhigh hne hns hout hpairs
  have hd : (s.stateOf i).debounces = false := by
    rw [← Bool.not_eq_true, debounces_iff]
    exact fun hx => hx.elim hne hns
  have h : Leaves i s := ⟨hhigh, hd, hout, hpairs⟩
  refine ⟨_, presenceLost_settles i s hrun hloss hd, ?_⟩
  obtain ⟨flag, hself⟩ := h.final_self
  obtain ⟨_, hrecord⟩ := h.final_record
  obtain ⟨hwait, hqueue, hholders⟩ := h.final_lists
  have hgone := h.gone
  have hnear := h.final_posted
  obtain ⟨hpre, hmain, hilim, hled⟩ := bare_out hself
  obtain ⟨gpre, gmain, gilim, gled⟩ := hgone.shows
  have hchan : ((settle settleBound (extracted i s)).slot i).chan = ((gone i s).st.slot i).chan :=
    congrArg (·.chan) hself
  have hcond : ((settle settleBound (extracted i s)).slot i).cond = ((gone i s).st.slot i).cond :=
    congrArg (·.cond) hself
  have hmark : ((settle settleBound (extracted i s)).recordOf i).faultOutstanding =
      ((s.recordOf i).faultOutstanding || (s.stateOf i).surprises) := by rw [hrecord]
  refine ⟨by rw [stateOf_eq, hrecord]; rfl, ⟨hpre.trans gpre, hmain.trans gmain, hilim.trans gilim, hled.trans gled⟩,
    h.final_lanes, by rw [NoWork, hchan]; exact hgone.noWork, by rw [hcond]; exact hgone.cond.1,
    by rw [hcond]; exact hgone.cond.2, ?_, ?_, ?_, ?_, ?_, ?_, ?_, ?_, ?_, ⟨?_, ?_, ?_⟩, hwait, hqueue, hholders, ?_,
    h.outcomeGiven, h.autoBatchFollows, h.noOtherWaits, h.grantPassedOn, h.permitPassedOn⟩
  case refine_13 =>
    split
    · rename_i hin
      have hs : (s.stateOf i).surprises = false := (surprises_iff hd).2 hin
      rw [SlotState.leaves, hs] at hnear
      exact ⟨by rw [hmark, hs, Bool.or_false], hnear⟩
    · rename_i hin
      have hs : (s.stateOf i).surprises = true := by
        rw [← Bool.not_eq_false, surprises_iff hd]; exact hin
      rw [SlotState.leaves, hs] at hnear
      exact ⟨by rw [hmark, hs, Bool.or_true], hnear, h.stormed hs⟩
  all_goals rw [hrecord]
  all_goals simp [SlotRecord.enter, discardsIdentity, SlotState.hasReason, SlotState.clearsApproved,
    SlotState.clearsAdopted, SlotState.clearsRetries, phaseDuration, powerAfter, SlotState.releasesGrant]

end Sys2Proof.SlotLines
end
